-- ==== Sys2Proof/Word.lean ====
section
/-!
DEFINITION. The word types of the block (00_scope.md R7): bytes, 16-bit addresses, 16-bit audio samples and ring
elements, 32-bit ring indices. Nothing else: the byte-order and bit-field helpers stand in Decode.lean and Machine/.
-/

namespace Sys2Proof

/-- R7: the data word, 8 bits; also A, X, Y, SP and P. -/
abbrev Byte := BitVec 8

/-- R7: an address, and the program counter, 16 bits. -/
abbrev Addr := BitVec 16

/-- R435: a signed 16-bit audio sample, as its bit pattern. -/
abbrev Sample := BitVec 16

/-- R51: a ring element, `RING_BITS <= 16` bits, held in 16. -/
abbrev Elem := BitVec 16

/-- R51: a ring index, 32 bits. -/
abbrev Index := BitVec 32

end Sys2Proof
end

