-- ==== Sys2Proof/Syntax.lean ====
section
/-!
DEFINITION. The instructions (30_encoding.md): the addressing modes, the operand forms, the shape of a row of the opcode
table, and `Instr`, one constructor per row of spec/opcode_table.json. A constructor carries the operand bytes of its
row: `v` an immediate byte, `z` a zero-page address or pointer, `w` a 16-bit address, `o` a branch offset. Two rows that
share a mnemonic and a mode carry their opcode in their name (`nopZp04`, `sbcImmEB`, `jam02`).
-/

namespace Sys2Proof

/-- R121: the addressing modes of the opcode table (`format`). -/
inductive Mode where
  | impl | acc | imm | zp | zpx | zpy | abs | absx | absy | ind | izx | izy | rel
  deriving DecidableEq, Repr

/-- R173: the data access of a row, made after the address is resolved. -/
inductive Access where
  | read | write | rmw | none
  deriving DecidableEq, Repr

/-- R152, R400: the base cycles of a row, a number or the parameter `JAM_CYCLES`. -/
inductive BaseCycles where
  | fixed (n : Nat)
  | jamCycles
  deriving DecidableEq, Repr

/-- One row of spec/opcode_table.json. -/
structure Row where
  opcode     : Byte
  mnemonic   : String
  mode       : Mode
  cycles     : BaseCycles
  pageCross  : Bool
  branch     : Bool
  documented : Bool
  access     : Access
  deriving DecidableEq, Repr

/-- R163 to R171: the operand forms that name a byte of memory, each with its operand bytes. -/
inductive MemOperand where
  | zp (z : Byte) | zpx (z : Byte) | zpy (z : Byte)
  | abs (w : Addr) | absx (w : Addr) | absy (w : Addr)
  | izx (z : Byte) | izy (z : Byte)
  deriving DecidableEq, Repr

/-- R162, R173: the operand of a read-kind row, an immediate byte or a byte of memory. -/
inductive ReadOperand where
  | imm (v : Byte)
  | mem (m : MemOperand)
  deriving DecidableEq, Repr

/-- The instructions: one constructor per row of spec/opcode_table.json. First the rows that have operand bytes, then the
rows that have none, each in the order of the opcodes (the compiler numbers no more than 244 constructors with fields). -/
inductive Instr where
  /-- $01 `ORA ($nn,X)`, R256. -/
  | oraIzx (z : Byte)
  /-- $03 `SLO ($nn,X)`, R371. -/
  | sloIzx (z : Byte)
  /-- $04 `NOP $nn`, R393. -/
  | nopZp04 (z : Byte)
  /-- $05 `ORA $nn`, R256. -/
  | oraZp (z : Byte)
  /-- $06 `ASL $nn`, R301. -/
  | aslZp (z : Byte)
  /-- $07 `SLO $nn`, R371. -/
  | sloZp (z : Byte)
  /-- $09 `ORA #$nn`, R256. -/
  | oraImm (v : Byte)
  /-- $0B `ANC #$nn`, R379. -/
  | ancImm0B (v : Byte)
  /-- $0C `NOP $hhll`, R394. -/
  | nopAbs (w : Addr)
  /-- $0D `ORA $hhll`, R256. -/
  | oraAbs (w : Addr)
  /-- $0E `ASL $hhll`, R301. -/
  | aslAbs (w : Addr)
  /-- $0F `SLO $hhll`, R371. -/
  | sloAbs (w : Addr)
  /-- $10 `BPL label`, R321. -/
  | bpl (o : Byte)
  /-- $11 `ORA ($nn),Y`, R256. -/
  | oraIzy (z : Byte)
  /-- $13 `SLO ($nn),Y`, R371. -/
  | sloIzy (z : Byte)
  /-- $14 `NOP $nn,X`, R393. -/
  | nopZpx14 (z : Byte)
  /-- $15 `ORA $nn,X`, R256. -/
  | oraZpx (z : Byte)
  /-- $16 `ASL $nn,X`, R301. -/
  | aslZpx (z : Byte)
  /-- $17 `SLO $nn,X`, R371. -/
  | sloZpx (z : Byte)
  /-- $19 `ORA $hhll,Y`, R256. -/
  | oraAbsy (w : Addr)
  /-- $1B `SLO $hhll,Y`, R371. -/
  | sloAbsy (w : Addr)
  /-- $1C `NOP $hhll,X`, R394. -/
  | nopAbsx1C (w : Addr)
  /-- $1D `ORA $hhll,X`, R256. -/
  | oraAbsx (w : Addr)
  /-- $1E `ASL $hhll,X`, R301. -/
  | aslAbsx (w : Addr)
  /-- $1F `SLO $hhll,X`, R371. -/
  | sloAbsx (w : Addr)
  /-- $20 `JSR $hhll`, R331. -/
  | jsrAbs (w : Addr)
  /-- $21 `AND ($nn,X)`, R255. -/
  | andIzx (z : Byte)
  /-- $23 `RLA ($nn,X)`, R372. -/
  | rlaIzx (z : Byte)
  /-- $24 `BIT $nn`, R261. -/
  | bitZp (z : Byte)
  /-- $25 `AND $nn`, R255. -/
  | andZp (z : Byte)
  /-- $26 `ROL $nn`, R303. -/
  | rolZp (z : Byte)
  /-- $27 `RLA $nn`, R372. -/
  | rlaZp (z : Byte)
  /-- $29 `AND #$nn`, R255. -/
  | andImm (v : Byte)
  /-- $2B `ANC #$nn`, R379. -/
  | ancImm2B (v : Byte)
  /-- $2C `BIT $hhll`, R261. -/
  | bitAbs (w : Addr)
  /-- $2D `AND $hhll`, R255. -/
  | andAbs (w : Addr)
  /-- $2E `ROL $hhll`, R303. -/
  | rolAbs (w : Addr)
  /-- $2F `RLA $hhll`, R372. -/
  | rlaAbs (w : Addr)
  /-- $30 `BMI label`, R322. -/
  | bmi (o : Byte)
  /-- $31 `AND ($nn),Y`, R255. -/
  | andIzy (z : Byte)
  /-- $33 `RLA ($nn),Y`, R372. -/
  | rlaIzy (z : Byte)
  /-- $34 `NOP $nn,X`, R393. -/
  | nopZpx34 (z : Byte)
  /-- $35 `AND $nn,X`, R255. -/
  | andZpx (z : Byte)
  /-- $36 `ROL $nn,X`, R303. -/
  | rolZpx (z : Byte)
  /-- $37 `RLA $nn,X`, R372. -/
  | rlaZpx (z : Byte)
  /-- $39 `AND $hhll,Y`, R255. -/
  | andAbsy (w : Addr)
  /-- $3B `RLA $hhll,Y`, R372. -/
  | rlaAbsy (w : Addr)
  /-- $3C `NOP $hhll,X`, R394. -/
  | nopAbsx3C (w : Addr)
  /-- $3D `AND $hhll,X`, R255. -/
  | andAbsx (w : Addr)
  /-- $3E `ROL $hhll,X`, R303. -/
  | rolAbsx (w : Addr)
  /-- $3F `RLA $hhll,X`, R372. -/
  | rlaAbsx (w : Addr)
  /-- $41 `EOR ($nn,X)`, R257. -/
  | eorIzx (z : Byte)
  /-- $43 `SRE ($nn,X)`, R373. -/
  | sreIzx (z : Byte)
  /-- $44 `NOP $nn`, R393. -/
  | nopZp44 (z : Byte)
  /-- $45 `EOR $nn`, R257. -/
  | eorZp (z : Byte)
  /-- $46 `LSR $nn`, R302. -/
  | lsrZp (z : Byte)
  /-- $47 `SRE $nn`, R373. -/
  | sreZp (z : Byte)
  /-- $49 `EOR #$nn`, R257. -/
  | eorImm (v : Byte)
  /-- $4B `ALR #$nn`, R380. -/
  | alrImm (v : Byte)
  /-- $4C `JMP $hhll`, R329. -/
  | jmpAbs (w : Addr)
  /-- $4D `EOR $hhll`, R257. -/
  | eorAbs (w : Addr)
  /-- $4E `LSR $hhll`, R302. -/
  | lsrAbs (w : Addr)
  /-- $4F `SRE $hhll`, R373. -/
  | sreAbs (w : Addr)
  /-- $50 `BVC label`, R323. -/
  | bvc (o : Byte)
  /-- $51 `EOR ($nn),Y`, R257. -/
  | eorIzy (z : Byte)
  /-- $53 `SRE ($nn),Y`, R373. -/
  | sreIzy (z : Byte)
  /-- $54 `NOP $nn,X`, R393. -/
  | nopZpx54 (z : Byte)
  /-- $55 `EOR $nn,X`, R257. -/
  | eorZpx (z : Byte)
  /-- $56 `LSR $nn,X`, R302. -/
  | lsrZpx (z : Byte)
  /-- $57 `SRE $nn,X`, R373. -/
  | sreZpx (z : Byte)
  /-- $59 `EOR $hhll,Y`, R257. -/
  | eorAbsy (w : Addr)
  /-- $5B `SRE $hhll,Y`, R373. -/
  | sreAbsy (w : Addr)
  /-- $5C `NOP $hhll,X`, R394. -/
  | nopAbsx5C (w : Addr)
  /-- $5D `EOR $hhll,X`, R257. -/
  | eorAbsx (w : Addr)
  /-- $5E `LSR $hhll,X`, R302. -/
  | lsrAbsx (w : Addr)
  /-- $5F `SRE $hhll,X`, R373. -/
  | sreAbsx (w : Addr)
  /-- $61 `ADC ($nn,X)`, R253. -/
  | adcIzx (z : Byte)
  /-- $63 `RRA ($nn,X)`, R374. -/
  | rraIzx (z : Byte)
  /-- $64 `NOP $nn`, R393. -/
  | nopZp64 (z : Byte)
  /-- $65 `ADC $nn`, R253. -/
  | adcZp (z : Byte)
  /-- $66 `ROR $nn`, R304. -/
  | rorZp (z : Byte)
  /-- $67 `RRA $nn`, R374. -/
  | rraZp (z : Byte)
  /-- $69 `ADC #$nn`, R253. -/
  | adcImm (v : Byte)
  /-- $6B `ARR #$nn`, R381. -/
  | arrImm (v : Byte)
  /-- $6C `JMP ($hhll)`, R330. -/
  | jmpInd (w : Addr)
  /-- $6D `ADC $hhll`, R253. -/
  | adcAbs (w : Addr)
  /-- $6E `ROR $hhll`, R304. -/
  | rorAbs (w : Addr)
  /-- $6F `RRA $hhll`, R374. -/
  | rraAbs (w : Addr)
  /-- $70 `BVS label`, R324. -/
  | bvs (o : Byte)
  /-- $71 `ADC ($nn),Y`, R253. -/
  | adcIzy (z : Byte)
  /-- $73 `RRA ($nn),Y`, R374. -/
  | rraIzy (z : Byte)
  /-- $74 `NOP $nn,X`, R393. -/
  | nopZpx74 (z : Byte)
  /-- $75 `ADC $nn,X`, R253. -/
  | adcZpx (z : Byte)
  /-- $76 `ROR $nn,X`, R304. -/
  | rorZpx (z : Byte)
  /-- $77 `RRA $nn,X`, R374. -/
  | rraZpx (z : Byte)
  /-- $79 `ADC $hhll,Y`, R253. -/
  | adcAbsy (w : Addr)
  /-- $7B `RRA $hhll,Y`, R374. -/
  | rraAbsy (w : Addr)
  /-- $7C `NOP $hhll,X`, R394. -/
  | nopAbsx7C (w : Addr)
  /-- $7D `ADC $hhll,X`, R253. -/
  | adcAbsx (w : Addr)
  /-- $7E `ROR $hhll,X`, R304. -/
  | rorAbsx (w : Addr)
  /-- $7F `RRA $hhll,X`, R374. -/
  | rraAbsx (w : Addr)
  /-- $80 `NOP #$nn`, R392. -/
  | nopImm80 (v : Byte)
  /-- $81 `STA ($nn,X)`, R204. -/
  | staIzx (z : Byte)
  /-- $82 `NOP #$nn`, R392. -/
  | nopImm82 (v : Byte)
  /-- $83 `SAX ($nn,X)`, R375. -/
  | saxIzx (z : Byte)
  /-- $84 `STY $nn`, R206. -/
  | styZp (z : Byte)
  /-- $85 `STA $nn`, R204. -/
  | staZp (z : Byte)
  /-- $86 `STX $nn`, R205. -/
  | stxZp (z : Byte)
  /-- $87 `SAX $nn`, R375. -/
  | saxZp (z : Byte)
  /-- $89 `NOP #$nn`, R392. -/
  | nopImm89 (v : Byte)
  /-- $8B `XAA #$nn`, R382. -/
  | xaaImm (v : Byte)
  /-- $8C `STY $hhll`, R206. -/
  | styAbs (w : Addr)
  /-- $8D `STA $hhll`, R204. -/
  | staAbs (w : Addr)
  /-- $8E `STX $hhll`, R205. -/
  | stxAbs (w : Addr)
  /-- $8F `SAX $hhll`, R375. -/
  | saxAbs (w : Addr)
  /-- $90 `BCC label`, R325. -/
  | bcc (o : Byte)
  /-- $91 `STA ($nn),Y`, R204. -/
  | staIzy (z : Byte)
  /-- $93 `AHX ($nn),Y`, R389. -/
  | ahxIzy (z : Byte)
  /-- $94 `STY $nn,X`, R206. -/
  | styZpx (z : Byte)
  /-- $95 `STA $nn,X`, R204. -/
  | staZpx (z : Byte)
  /-- $96 `STX $nn,Y`, R205. -/
  | stxZpy (z : Byte)
  /-- $97 `SAX $nn,Y`, R375. -/
  | saxZpy (z : Byte)
  /-- $99 `STA $hhll,Y`, R204. -/
  | staAbsy (w : Addr)
  /-- $9B `TAS $hhll,Y`, R386. -/
  | tasAbsy (w : Addr)
  /-- $9C `SHY $hhll,X`, R388. -/
  | shyAbsx (w : Addr)
  /-- $9D `STA $hhll,X`, R204. -/
  | staAbsx (w : Addr)
  /-- $9E `SHX $hhll,Y`, R387. -/
  | shxAbsy (w : Addr)
  /-- $9F `AHX $hhll,Y`, R389. -/
  | ahxAbsy (w : Addr)
  /-- $A0 `LDY #$nn`, R203. -/
  | ldyImm (v : Byte)
  /-- $A1 `LDA ($nn,X)`, R201. -/
  | ldaIzx (z : Byte)
  /-- $A2 `LDX #$nn`, R202. -/
  | ldxImm (v : Byte)
  /-- $A3 `LAX ($nn,X)`, R376. -/
  | laxIzx (z : Byte)
  /-- $A4 `LDY $nn`, R203. -/
  | ldyZp (z : Byte)
  /-- $A5 `LDA $nn`, R201. -/
  | ldaZp (z : Byte)
  /-- $A6 `LDX $nn`, R202. -/
  | ldxZp (z : Byte)
  /-- $A7 `LAX $nn`, R376. -/
  | laxZp (z : Byte)
  /-- $A9 `LDA #$nn`, R201. -/
  | ldaImm (v : Byte)
  /-- $AB `LAX #$nn`, R383. -/
  | laxImm (v : Byte)
  /-- $AC `LDY $hhll`, R203. -/
  | ldyAbs (w : Addr)
  /-- $AD `LDA $hhll`, R201. -/
  | ldaAbs (w : Addr)
  /-- $AE `LDX $hhll`, R202. -/
  | ldxAbs (w : Addr)
  /-- $AF `LAX $hhll`, R376. -/
  | laxAbs (w : Addr)
  /-- $B0 `BCS label`, R326. -/
  | bcs (o : Byte)
  /-- $B1 `LDA ($nn),Y`, R201. -/
  | ldaIzy (z : Byte)
  /-- $B3 `LAX ($nn),Y`, R376. -/
  | laxIzy (z : Byte)
  /-- $B4 `LDY $nn,X`, R203. -/
  | ldyZpx (z : Byte)
  /-- $B5 `LDA $nn,X`, R201. -/
  | ldaZpx (z : Byte)
  /-- $B6 `LDX $nn,Y`, R202. -/
  | ldxZpy (z : Byte)
  /-- $B7 `LAX $nn,Y`, R376. -/
  | laxZpy (z : Byte)
  /-- $B9 `LDA $hhll,Y`, R201. -/
  | ldaAbsy (w : Addr)
  /-- $BB `LAS $hhll,Y`, R385. -/
  | lasAbsy (w : Addr)
  /-- $BC `LDY $hhll,X`, R203. -/
  | ldyAbsx (w : Addr)
  /-- $BD `LDA $hhll,X`, R201. -/
  | ldaAbsx (w : Addr)
  /-- $BE `LDX $hhll,Y`, R202. -/
  | ldxAbsy (w : Addr)
  /-- $BF `LAX $hhll,Y`, R376. -/
  | laxAbsy (w : Addr)
  /-- $C0 `CPY #$nn`, R260. -/
  | cpyImm (v : Byte)
  /-- $C1 `CMP ($nn,X)`, R258. -/
  | cmpIzx (z : Byte)
  /-- $C2 `NOP #$nn`, R392. -/
  | nopImmC2 (v : Byte)
  /-- $C3 `DCP ($nn,X)`, R377. -/
  | dcpIzx (z : Byte)
  /-- $C4 `CPY $nn`, R260. -/
  | cpyZp (z : Byte)
  /-- $C5 `CMP $nn`, R258. -/
  | cmpZp (z : Byte)
  /-- $C6 `DEC $nn`, R263. -/
  | decZp (z : Byte)
  /-- $C7 `DCP $nn`, R377. -/
  | dcpZp (z : Byte)
  /-- $C9 `CMP #$nn`, R258. -/
  | cmpImm (v : Byte)
  /-- $CB `AXS #$nn`, R384. -/
  | axsImm (v : Byte)
  /-- $CC `CPY $hhll`, R260. -/
  | cpyAbs (w : Addr)
  /-- $CD `CMP $hhll`, R258. -/
  | cmpAbs (w : Addr)
  /-- $CE `DEC $hhll`, R263. -/
  | decAbs (w : Addr)
  /-- $CF `DCP $hhll`, R377. -/
  | dcpAbs (w : Addr)
  /-- $D0 `BNE label`, R327. -/
  | bne (o : Byte)
  /-- $D1 `CMP ($nn),Y`, R258. -/
  | cmpIzy (z : Byte)
  /-- $D3 `DCP ($nn),Y`, R377. -/
  | dcpIzy (z : Byte)
  /-- $D4 `NOP $nn,X`, R393. -/
  | nopZpxD4 (z : Byte)
  /-- $D5 `CMP $nn,X`, R258. -/
  | cmpZpx (z : Byte)
  /-- $D6 `DEC $nn,X`, R263. -/
  | decZpx (z : Byte)
  /-- $D7 `DCP $nn,X`, R377. -/
  | dcpZpx (z : Byte)
  /-- $D9 `CMP $hhll,Y`, R258. -/
  | cmpAbsy (w : Addr)
  /-- $DB `DCP $hhll,Y`, R377. -/
  | dcpAbsy (w : Addr)
  /-- $DC `NOP $hhll,X`, R394. -/
  | nopAbsxDC (w : Addr)
  /-- $DD `CMP $hhll,X`, R258. -/
  | cmpAbsx (w : Addr)
  /-- $DE `DEC $hhll,X`, R263. -/
  | decAbsx (w : Addr)
  /-- $DF `DCP $hhll,X`, R377. -/
  | dcpAbsx (w : Addr)
  /-- $E0 `CPX #$nn`, R259. -/
  | cpxImm (v : Byte)
  /-- $E1 `SBC ($nn,X)`, R254. -/
  | sbcIzx (z : Byte)
  /-- $E2 `NOP #$nn`, R392. -/
  | nopImmE2 (v : Byte)
  /-- $E3 `ISB ($nn,X)`, R378. -/
  | isbIzx (z : Byte)
  /-- $E4 `CPX $nn`, R259. -/
  | cpxZp (z : Byte)
  /-- $E5 `SBC $nn`, R254. -/
  | sbcZp (z : Byte)
  /-- $E6 `INC $nn`, R262. -/
  | incZp (z : Byte)
  /-- $E7 `ISB $nn`, R378. -/
  | isbZp (z : Byte)
  /-- $E9 `SBC #$nn`, R254. -/
  | sbcImmE9 (v : Byte)
  /-- $EB `SBC #$nn`, R390. -/
  | sbcImmEB (v : Byte)
  /-- $EC `CPX $hhll`, R259. -/
  | cpxAbs (w : Addr)
  /-- $ED `SBC $hhll`, R254. -/
  | sbcAbs (w : Addr)
  /-- $EE `INC $hhll`, R262. -/
  | incAbs (w : Addr)
  /-- $EF `ISB $hhll`, R378. -/
  | isbAbs (w : Addr)
  /-- $F0 `BEQ label`, R328. -/
  | beq (o : Byte)
  /-- $F1 `SBC ($nn),Y`, R254. -/
  | sbcIzy (z : Byte)
  /-- $F3 `ISB ($nn),Y`, R378. -/
  | isbIzy (z : Byte)
  /-- $F4 `NOP $nn,X`, R393. -/
  | nopZpxF4 (z : Byte)
  /-- $F5 `SBC $nn,X`, R254. -/
  | sbcZpx (z : Byte)
  /-- $F6 `INC $nn,X`, R262. -/
  | incZpx (z : Byte)
  /-- $F7 `ISB $nn,X`, R378. -/
  | isbZpx (z : Byte)
  /-- $F9 `SBC $hhll,Y`, R254. -/
  | sbcAbsy (w : Addr)
  /-- $FB `ISB $hhll,Y`, R378. -/
  | isbAbsy (w : Addr)
  /-- $FC `NOP $hhll,X`, R394. -/
  | nopAbsxFC (w : Addr)
  /-- $FD `SBC $hhll,X`, R254. -/
  | sbcAbsx (w : Addr)
  /-- $FE `INC $hhll,X`, R262. -/
  | incAbsx (w : Addr)
  /-- $FF `ISB $hhll,X`, R378. -/
  | isbAbsx (w : Addr)
  /-- $00 `BRK`, R333. -/
  | brk
  /-- $02 `JAM`, R400. -/
  | jam02
  /-- $08 `PHP`, R231. -/
  | php
  /-- $0A `ASL A`, R301. -/
  | aslAcc
  /-- $12 `JAM`, R400. -/
  | jam12
  /-- $18 `CLC`, R335. -/
  | clc
  /-- $1A `NOP`, R391. -/
  | nopImpl1A
  /-- $22 `JAM`, R400. -/
  | jam22
  /-- $28 `PLP`, R233. -/
  | plp
  /-- $2A `ROL A`, R303. -/
  | rolAcc
  /-- $32 `JAM`, R400. -/
  | jam32
  /-- $38 `SEC`, R336. -/
  | sec
  /-- $3A `NOP`, R391. -/
  | nopImpl3A
  /-- $40 `RTI`, R334. -/
  | rti
  /-- $42 `JAM`, R400. -/
  | jam42
  /-- $48 `PHA`, R230. -/
  | pha
  /-- $4A `LSR A`, R302. -/
  | lsrAcc
  /-- $52 `JAM`, R400. -/
  | jam52
  /-- $58 `CLI`, R337. -/
  | cli
  /-- $5A `NOP`, R391. -/
  | nopImpl5A
  /-- $60 `RTS`, R332. -/
  | rts
  /-- $62 `JAM`, R400. -/
  | jam62
  /-- $68 `PLA`, R232. -/
  | pla
  /-- $6A `ROR A`, R304. -/
  | rorAcc
  /-- $72 `JAM`, R400. -/
  | jam72
  /-- $78 `SEI`, R338. -/
  | sei
  /-- $7A `NOP`, R391. -/
  | nopImpl7A
  /-- $88 `DEY`, R267. -/
  | dey
  /-- $8A `TXA`, R209. -/
  | txa
  /-- $92 `JAM`, R400. -/
  | jam92
  /-- $98 `TYA`, R210. -/
  | tya
  /-- $9A `TXS`, R212. -/
  | txs
  /-- $A8 `TAY`, R208. -/
  | tay
  /-- $AA `TAX`, R207. -/
  | tax
  /-- $B2 `JAM`, R400. -/
  | jamB2
  /-- $B8 `CLV`, R341. -/
  | clv
  /-- $BA `TSX`, R211. -/
  | tsx
  /-- $C8 `INY`, R265. -/
  | iny
  /-- $CA `DEX`, R266. -/
  | dex
  /-- $D2 `JAM`, R400. -/
  | jamD2
  /-- $D8 `CLD`, R339. -/
  | cld
  /-- $DA `NOP`, R391. -/
  | nopImplDA
  /-- $E8 `INX`, R264. -/
  | inx
  /-- $EA `NOP`, R342. -/
  | nopImplEA
  /-- $F2 `JAM`, R400. -/
  | jamF2
  /-- $F8 `SED`, R340. -/
  | sed
  /-- $FA `NOP`, R391. -/
  | nopImplFA
  deriving DecidableEq, Repr

end Sys2Proof
end

