-- ==== Sys2Proof/Decode.lean ====
section
/-!
DEFINITION. Decoding and encoding (30_encoding.md). `rowOf` is the opcode table of spec/opcode_table.json, laid out as
the map of R124: sixteen pages, page = high nibble, column = low nibble. `decodeOp` gives the instruction of an opcode
and its operand bytes, total (R125, R151); `decode` reads a list of bytes and rejects by name one that ends inside an
instruction; `encode` is the bytes of an instruction, opcode first, then the operand bytes in address order (R120, R121).
-/

namespace Sys2Proof

/-- R9: `lo(w)`, bits 7..0. -/
def lo (w : Addr) : Byte := w.setWidth 8

/-- R9: `hi(w)`, bits 15..8. -/
def hi (w : Addr) : Byte := (w >>> 8).setWidth 8

/-- R122, R80: the 16-bit quantity `h : l` of a low and a high byte. -/
def wordOf (l h : Byte) : Addr := h ++ l

/-- R121: the length in bytes of an instruction of each addressing mode. -/
def Mode.length : Mode → Nat
  | .impl => 1
  | .acc => 1
  | .imm => 2
  | .zp => 2
  | .zpx => 2
  | .zpy => 2
  | .abs => 3
  | .absx => 3
  | .absy => 3
  | .ind => 3
  | .izx => 2
  | .izy => 2
  | .rel => 2

/-- R121: the length in bytes of the instructions of a row. -/
def Row.length (r : Row) : Nat := r.mode.length

/-- R124: the rows of the opcodes $00 to $0F. -/
def opcodePage0 : List Row :=
  [ ⟨0x00, "BRK", .impl, .fixed 7, false, false, true, .none⟩,
    ⟨0x01, "ORA", .izx, .fixed 6, false, false, true, .read⟩,
    ⟨0x02, "JAM", .impl, .jamCycles, false, false, false, .none⟩,
    ⟨0x03, "SLO", .izx, .fixed 8, false, false, false, .rmw⟩,
    ⟨0x04, "NOP", .zp, .fixed 3, false, false, false, .read⟩,
    ⟨0x05, "ORA", .zp, .fixed 3, false, false, true, .read⟩,
    ⟨0x06, "ASL", .zp, .fixed 5, false, false, true, .rmw⟩,
    ⟨0x07, "SLO", .zp, .fixed 5, false, false, false, .rmw⟩,
    ⟨0x08, "PHP", .impl, .fixed 3, false, false, true, .none⟩,
    ⟨0x09, "ORA", .imm, .fixed 2, false, false, true, .read⟩,
    ⟨0x0A, "ASL", .acc, .fixed 2, false, false, true, .none⟩,
    ⟨0x0B, "ANC", .imm, .fixed 2, false, false, false, .read⟩,
    ⟨0x0C, "NOP", .abs, .fixed 4, false, false, false, .read⟩,
    ⟨0x0D, "ORA", .abs, .fixed 4, false, false, true, .read⟩,
    ⟨0x0E, "ASL", .abs, .fixed 6, false, false, true, .rmw⟩,
    ⟨0x0F, "SLO", .abs, .fixed 6, false, false, false, .rmw⟩ ]

/-- R124: the rows of the opcodes $10 to $1F. -/
def opcodePage1 : List Row :=
  [ ⟨0x10, "BPL", .rel, .fixed 2, false, true, true, .none⟩,
    ⟨0x11, "ORA", .izy, .fixed 5, true, false, true, .read⟩,
    ⟨0x12, "JAM", .impl, .jamCycles, false, false, false, .none⟩,
    ⟨0x13, "SLO", .izy, .fixed 8, false, false, false, .rmw⟩,
    ⟨0x14, "NOP", .zpx, .fixed 4, false, false, false, .read⟩,
    ⟨0x15, "ORA", .zpx, .fixed 4, false, false, true, .read⟩,
    ⟨0x16, "ASL", .zpx, .fixed 6, false, false, true, .rmw⟩,
    ⟨0x17, "SLO", .zpx, .fixed 6, false, false, false, .rmw⟩,
    ⟨0x18, "CLC", .impl, .fixed 2, false, false, true, .none⟩,
    ⟨0x19, "ORA", .absy, .fixed 4, true, false, true, .read⟩,
    ⟨0x1A, "NOP", .impl, .fixed 2, false, false, false, .none⟩,
    ⟨0x1B, "SLO", .absy, .fixed 7, false, false, false, .rmw⟩,
    ⟨0x1C, "NOP", .absx, .fixed 4, true, false, false, .read⟩,
    ⟨0x1D, "ORA", .absx, .fixed 4, true, false, true, .read⟩,
    ⟨0x1E, "ASL", .absx, .fixed 7, false, false, true, .rmw⟩,
    ⟨0x1F, "SLO", .absx, .fixed 7, false, false, false, .rmw⟩ ]

/-- R124: the rows of the opcodes $20 to $2F. -/
def opcodePage2 : List Row :=
  [ ⟨0x20, "JSR", .abs, .fixed 6, false, false, true, .none⟩,
    ⟨0x21, "AND", .izx, .fixed 6, false, false, true, .read⟩,
    ⟨0x22, "JAM", .impl, .jamCycles, false, false, false, .none⟩,
    ⟨0x23, "RLA", .izx, .fixed 8, false, false, false, .rmw⟩,
    ⟨0x24, "BIT", .zp, .fixed 3, false, false, true, .read⟩,
    ⟨0x25, "AND", .zp, .fixed 3, false, false, true, .read⟩,
    ⟨0x26, "ROL", .zp, .fixed 5, false, false, true, .rmw⟩,
    ⟨0x27, "RLA", .zp, .fixed 5, false, false, false, .rmw⟩,
    ⟨0x28, "PLP", .impl, .fixed 4, false, false, true, .none⟩,
    ⟨0x29, "AND", .imm, .fixed 2, false, false, true, .read⟩,
    ⟨0x2A, "ROL", .acc, .fixed 2, false, false, true, .none⟩,
    ⟨0x2B, "ANC", .imm, .fixed 2, false, false, false, .read⟩,
    ⟨0x2C, "BIT", .abs, .fixed 4, false, false, true, .read⟩,
    ⟨0x2D, "AND", .abs, .fixed 4, false, false, true, .read⟩,
    ⟨0x2E, "ROL", .abs, .fixed 6, false, false, true, .rmw⟩,
    ⟨0x2F, "RLA", .abs, .fixed 6, false, false, false, .rmw⟩ ]

/-- R124: the rows of the opcodes $30 to $3F. -/
def opcodePage3 : List Row :=
  [ ⟨0x30, "BMI", .rel, .fixed 2, false, true, true, .none⟩,
    ⟨0x31, "AND", .izy, .fixed 5, true, false, true, .read⟩,
    ⟨0x32, "JAM", .impl, .jamCycles, false, false, false, .none⟩,
    ⟨0x33, "RLA", .izy, .fixed 8, false, false, false, .rmw⟩,
    ⟨0x34, "NOP", .zpx, .fixed 4, false, false, false, .read⟩,
    ⟨0x35, "AND", .zpx, .fixed 4, false, false, true, .read⟩,
    ⟨0x36, "ROL", .zpx, .fixed 6, false, false, true, .rmw⟩,
    ⟨0x37, "RLA", .zpx, .fixed 6, false, false, false, .rmw⟩,
    ⟨0x38, "SEC", .impl, .fixed 2, false, false, true, .none⟩,
    ⟨0x39, "AND", .absy, .fixed 4, true, false, true, .read⟩,
    ⟨0x3A, "NOP", .impl, .fixed 2, false, false, false, .none⟩,
    ⟨0x3B, "RLA", .absy, .fixed 7, false, false, false, .rmw⟩,
    ⟨0x3C, "NOP", .absx, .fixed 4, true, false, false, .read⟩,
    ⟨0x3D, "AND", .absx, .fixed 4, true, false, true, .read⟩,
    ⟨0x3E, "ROL", .absx, .fixed 7, false, false, true, .rmw⟩,
    ⟨0x3F, "RLA", .absx, .fixed 7, false, false, false, .rmw⟩ ]

/-- R124: the rows of the opcodes $40 to $4F. -/
def opcodePage4 : List Row :=
  [ ⟨0x40, "RTI", .impl, .fixed 6, false, false, true, .none⟩,
    ⟨0x41, "EOR", .izx, .fixed 6, false, false, true, .read⟩,
    ⟨0x42, "JAM", .impl, .jamCycles, false, false, false, .none⟩,
    ⟨0x43, "SRE", .izx, .fixed 8, false, false, false, .rmw⟩,
    ⟨0x44, "NOP", .zp, .fixed 3, false, false, false, .read⟩,
    ⟨0x45, "EOR", .zp, .fixed 3, false, false, true, .read⟩,
    ⟨0x46, "LSR", .zp, .fixed 5, false, false, true, .rmw⟩,
    ⟨0x47, "SRE", .zp, .fixed 5, false, false, false, .rmw⟩,
    ⟨0x48, "PHA", .impl, .fixed 3, false, false, true, .none⟩,
    ⟨0x49, "EOR", .imm, .fixed 2, false, false, true, .read⟩,
    ⟨0x4A, "LSR", .acc, .fixed 2, false, false, true, .none⟩,
    ⟨0x4B, "ALR", .imm, .fixed 2, false, false, false, .read⟩,
    ⟨0x4C, "JMP", .abs, .fixed 3, false, false, true, .none⟩,
    ⟨0x4D, "EOR", .abs, .fixed 4, false, false, true, .read⟩,
    ⟨0x4E, "LSR", .abs, .fixed 6, false, false, true, .rmw⟩,
    ⟨0x4F, "SRE", .abs, .fixed 6, false, false, false, .rmw⟩ ]

/-- R124: the rows of the opcodes $50 to $5F. -/
def opcodePage5 : List Row :=
  [ ⟨0x50, "BVC", .rel, .fixed 2, false, true, true, .none⟩,
    ⟨0x51, "EOR", .izy, .fixed 5, true, false, true, .read⟩,
    ⟨0x52, "JAM", .impl, .jamCycles, false, false, false, .none⟩,
    ⟨0x53, "SRE", .izy, .fixed 8, false, false, false, .rmw⟩,
    ⟨0x54, "NOP", .zpx, .fixed 4, false, false, false, .read⟩,
    ⟨0x55, "EOR", .zpx, .fixed 4, false, false, true, .read⟩,
    ⟨0x56, "LSR", .zpx, .fixed 6, false, false, true, .rmw⟩,
    ⟨0x57, "SRE", .zpx, .fixed 6, false, false, false, .rmw⟩,
    ⟨0x58, "CLI", .impl, .fixed 2, false, false, true, .none⟩,
    ⟨0x59, "EOR", .absy, .fixed 4, true, false, true, .read⟩,
    ⟨0x5A, "NOP", .impl, .fixed 2, false, false, false, .none⟩,
    ⟨0x5B, "SRE", .absy, .fixed 7, false, false, false, .rmw⟩,
    ⟨0x5C, "NOP", .absx, .fixed 4, true, false, false, .read⟩,
    ⟨0x5D, "EOR", .absx, .fixed 4, true, false, true, .read⟩,
    ⟨0x5E, "LSR", .absx, .fixed 7, false, false, true, .rmw⟩,
    ⟨0x5F, "SRE", .absx, .fixed 7, false, false, false, .rmw⟩ ]

/-- R124: the rows of the opcodes $60 to $6F. -/
def opcodePage6 : List Row :=
  [ ⟨0x60, "RTS", .impl, .fixed 6, false, false, true, .none⟩,
    ⟨0x61, "ADC", .izx, .fixed 6, false, false, true, .read⟩,
    ⟨0x62, "JAM", .impl, .jamCycles, false, false, false, .none⟩,
    ⟨0x63, "RRA", .izx, .fixed 8, false, false, false, .rmw⟩,
    ⟨0x64, "NOP", .zp, .fixed 3, false, false, false, .read⟩,
    ⟨0x65, "ADC", .zp, .fixed 3, false, false, true, .read⟩,
    ⟨0x66, "ROR", .zp, .fixed 5, false, false, true, .rmw⟩,
    ⟨0x67, "RRA", .zp, .fixed 5, false, false, false, .rmw⟩,
    ⟨0x68, "PLA", .impl, .fixed 4, false, false, true, .none⟩,
    ⟨0x69, "ADC", .imm, .fixed 2, false, false, true, .read⟩,
    ⟨0x6A, "ROR", .acc, .fixed 2, false, false, true, .none⟩,
    ⟨0x6B, "ARR", .imm, .fixed 2, false, false, false, .read⟩,
    ⟨0x6C, "JMP", .ind, .fixed 5, false, false, true, .none⟩,
    ⟨0x6D, "ADC", .abs, .fixed 4, false, false, true, .read⟩,
    ⟨0x6E, "ROR", .abs, .fixed 6, false, false, true, .rmw⟩,
    ⟨0x6F, "RRA", .abs, .fixed 6, false, false, false, .rmw⟩ ]

/-- R124: the rows of the opcodes $70 to $7F. -/
def opcodePage7 : List Row :=
  [ ⟨0x70, "BVS", .rel, .fixed 2, false, true, true, .none⟩,
    ⟨0x71, "ADC", .izy, .fixed 5, true, false, true, .read⟩,
    ⟨0x72, "JAM", .impl, .jamCycles, false, false, false, .none⟩,
    ⟨0x73, "RRA", .izy, .fixed 8, false, false, false, .rmw⟩,
    ⟨0x74, "NOP", .zpx, .fixed 4, false, false, false, .read⟩,
    ⟨0x75, "ADC", .zpx, .fixed 4, false, false, true, .read⟩,
    ⟨0x76, "ROR", .zpx, .fixed 6, false, false, true, .rmw⟩,
    ⟨0x77, "RRA", .zpx, .fixed 6, false, false, false, .rmw⟩,
    ⟨0x78, "SEI", .impl, .fixed 2, false, false, true, .none⟩,
    ⟨0x79, "ADC", .absy, .fixed 4, true, false, true, .read⟩,
    ⟨0x7A, "NOP", .impl, .fixed 2, false, false, false, .none⟩,
    ⟨0x7B, "RRA", .absy, .fixed 7, false, false, false, .rmw⟩,
    ⟨0x7C, "NOP", .absx, .fixed 4, true, false, false, .read⟩,
    ⟨0x7D, "ADC", .absx, .fixed 4, true, false, true, .read⟩,
    ⟨0x7E, "ROR", .absx, .fixed 7, false, false, true, .rmw⟩,
    ⟨0x7F, "RRA", .absx, .fixed 7, false, false, false, .rmw⟩ ]

/-- R124: the rows of the opcodes $80 to $8F. -/
def opcodePage8 : List Row :=
  [ ⟨0x80, "NOP", .imm, .fixed 2, false, false, false, .read⟩,
    ⟨0x81, "STA", .izx, .fixed 6, false, false, true, .write⟩,
    ⟨0x82, "NOP", .imm, .fixed 2, false, false, false, .read⟩,
    ⟨0x83, "SAX", .izx, .fixed 6, false, false, false, .write⟩,
    ⟨0x84, "STY", .zp, .fixed 3, false, false, true, .write⟩,
    ⟨0x85, "STA", .zp, .fixed 3, false, false, true, .write⟩,
    ⟨0x86, "STX", .zp, .fixed 3, false, false, true, .write⟩,
    ⟨0x87, "SAX", .zp, .fixed 3, false, false, false, .write⟩,
    ⟨0x88, "DEY", .impl, .fixed 2, false, false, true, .none⟩,
    ⟨0x89, "NOP", .imm, .fixed 2, false, false, false, .read⟩,
    ⟨0x8A, "TXA", .impl, .fixed 2, false, false, true, .none⟩,
    ⟨0x8B, "XAA", .imm, .fixed 2, false, false, false, .read⟩,
    ⟨0x8C, "STY", .abs, .fixed 4, false, false, true, .write⟩,
    ⟨0x8D, "STA", .abs, .fixed 4, false, false, true, .write⟩,
    ⟨0x8E, "STX", .abs, .fixed 4, false, false, true, .write⟩,
    ⟨0x8F, "SAX", .abs, .fixed 4, false, false, false, .write⟩ ]

/-- R124: the rows of the opcodes $90 to $9F. -/
def opcodePage9 : List Row :=
  [ ⟨0x90, "BCC", .rel, .fixed 2, false, true, true, .none⟩,
    ⟨0x91, "STA", .izy, .fixed 6, false, false, true, .write⟩,
    ⟨0x92, "JAM", .impl, .jamCycles, false, false, false, .none⟩,
    ⟨0x93, "AHX", .izy, .fixed 6, false, false, false, .write⟩,
    ⟨0x94, "STY", .zpx, .fixed 4, false, false, true, .write⟩,
    ⟨0x95, "STA", .zpx, .fixed 4, false, false, true, .write⟩,
    ⟨0x96, "STX", .zpy, .fixed 4, false, false, true, .write⟩,
    ⟨0x97, "SAX", .zpy, .fixed 4, false, false, false, .write⟩,
    ⟨0x98, "TYA", .impl, .fixed 2, false, false, true, .none⟩,
    ⟨0x99, "STA", .absy, .fixed 5, false, false, true, .write⟩,
    ⟨0x9A, "TXS", .impl, .fixed 2, false, false, true, .none⟩,
    ⟨0x9B, "TAS", .absy, .fixed 5, false, false, false, .write⟩,
    ⟨0x9C, "SHY", .absx, .fixed 5, false, false, false, .write⟩,
    ⟨0x9D, "STA", .absx, .fixed 5, false, false, true, .write⟩,
    ⟨0x9E, "SHX", .absy, .fixed 5, false, false, false, .write⟩,
    ⟨0x9F, "AHX", .absy, .fixed 5, false, false, false, .write⟩ ]

/-- R124: the rows of the opcodes $A0 to $AF. -/
def opcodePageA : List Row :=
  [ ⟨0xA0, "LDY", .imm, .fixed 2, false, false, true, .read⟩,
    ⟨0xA1, "LDA", .izx, .fixed 6, false, false, true, .read⟩,
    ⟨0xA2, "LDX", .imm, .fixed 2, false, false, true, .read⟩,
    ⟨0xA3, "LAX", .izx, .fixed 6, false, false, false, .read⟩,
    ⟨0xA4, "LDY", .zp, .fixed 3, false, false, true, .read⟩,
    ⟨0xA5, "LDA", .zp, .fixed 3, false, false, true, .read⟩,
    ⟨0xA6, "LDX", .zp, .fixed 3, false, false, true, .read⟩,
    ⟨0xA7, "LAX", .zp, .fixed 3, false, false, false, .read⟩,
    ⟨0xA8, "TAY", .impl, .fixed 2, false, false, true, .none⟩,
    ⟨0xA9, "LDA", .imm, .fixed 2, false, false, true, .read⟩,
    ⟨0xAA, "TAX", .impl, .fixed 2, false, false, true, .none⟩,
    ⟨0xAB, "LAX", .imm, .fixed 2, false, false, false, .read⟩,
    ⟨0xAC, "LDY", .abs, .fixed 4, false, false, true, .read⟩,
    ⟨0xAD, "LDA", .abs, .fixed 4, false, false, true, .read⟩,
    ⟨0xAE, "LDX", .abs, .fixed 4, false, false, true, .read⟩,
    ⟨0xAF, "LAX", .abs, .fixed 4, false, false, false, .read⟩ ]

/-- R124: the rows of the opcodes $B0 to $BF. -/
def opcodePageB : List Row :=
  [ ⟨0xB0, "BCS", .rel, .fixed 2, false, true, true, .none⟩,
    ⟨0xB1, "LDA", .izy, .fixed 5, true, false, true, .read⟩,
    ⟨0xB2, "JAM", .impl, .jamCycles, false, false, false, .none⟩,
    ⟨0xB3, "LAX", .izy, .fixed 5, true, false, false, .read⟩,
    ⟨0xB4, "LDY", .zpx, .fixed 4, false, false, true, .read⟩,
    ⟨0xB5, "LDA", .zpx, .fixed 4, false, false, true, .read⟩,
    ⟨0xB6, "LDX", .zpy, .fixed 4, false, false, true, .read⟩,
    ⟨0xB7, "LAX", .zpy, .fixed 4, false, false, false, .read⟩,
    ⟨0xB8, "CLV", .impl, .fixed 2, false, false, true, .none⟩,
    ⟨0xB9, "LDA", .absy, .fixed 4, true, false, true, .read⟩,
    ⟨0xBA, "TSX", .impl, .fixed 2, false, false, true, .none⟩,
    ⟨0xBB, "LAS", .absy, .fixed 4, true, false, false, .read⟩,
    ⟨0xBC, "LDY", .absx, .fixed 4, true, false, true, .read⟩,
    ⟨0xBD, "LDA", .absx, .fixed 4, true, false, true, .read⟩,
    ⟨0xBE, "LDX", .absy, .fixed 4, true, false, true, .read⟩,
    ⟨0xBF, "LAX", .absy, .fixed 4, true, false, false, .read⟩ ]

/-- R124: the rows of the opcodes $C0 to $CF. -/
def opcodePageC : List Row :=
  [ ⟨0xC0, "CPY", .imm, .fixed 2, false, false, true, .read⟩,
    ⟨0xC1, "CMP", .izx, .fixed 6, false, false, true, .read⟩,
    ⟨0xC2, "NOP", .imm, .fixed 2, false, false, false, .read⟩,
    ⟨0xC3, "DCP", .izx, .fixed 8, false, false, false, .rmw⟩,
    ⟨0xC4, "CPY", .zp, .fixed 3, false, false, true, .read⟩,
    ⟨0xC5, "CMP", .zp, .fixed 3, false, false, true, .read⟩,
    ⟨0xC6, "DEC", .zp, .fixed 5, false, false, true, .rmw⟩,
    ⟨0xC7, "DCP", .zp, .fixed 5, false, false, false, .rmw⟩,
    ⟨0xC8, "INY", .impl, .fixed 2, false, false, true, .none⟩,
    ⟨0xC9, "CMP", .imm, .fixed 2, false, false, true, .read⟩,
    ⟨0xCA, "DEX", .impl, .fixed 2, false, false, true, .none⟩,
    ⟨0xCB, "AXS", .imm, .fixed 2, false, false, false, .read⟩,
    ⟨0xCC, "CPY", .abs, .fixed 4, false, false, true, .read⟩,
    ⟨0xCD, "CMP", .abs, .fixed 4, false, false, true, .read⟩,
    ⟨0xCE, "DEC", .abs, .fixed 6, false, false, true, .rmw⟩,
    ⟨0xCF, "DCP", .abs, .fixed 6, false, false, false, .rmw⟩ ]

/-- R124: the rows of the opcodes $D0 to $DF. -/
def opcodePageD : List Row :=
  [ ⟨0xD0, "BNE", .rel, .fixed 2, false, true, true, .none⟩,
    ⟨0xD1, "CMP", .izy, .fixed 5, true, false, true, .read⟩,
    ⟨0xD2, "JAM", .impl, .jamCycles, false, false, false, .none⟩,
    ⟨0xD3, "DCP", .izy, .fixed 8, false, false, false, .rmw⟩,
    ⟨0xD4, "NOP", .zpx, .fixed 4, false, false, false, .read⟩,
    ⟨0xD5, "CMP", .zpx, .fixed 4, false, false, true, .read⟩,
    ⟨0xD6, "DEC", .zpx, .fixed 6, false, false, true, .rmw⟩,
    ⟨0xD7, "DCP", .zpx, .fixed 6, false, false, false, .rmw⟩,
    ⟨0xD8, "CLD", .impl, .fixed 2, false, false, true, .none⟩,
    ⟨0xD9, "CMP", .absy, .fixed 4, true, false, true, .read⟩,
    ⟨0xDA, "NOP", .impl, .fixed 2, false, false, false, .none⟩,
    ⟨0xDB, "DCP", .absy, .fixed 7, false, false, false, .rmw⟩,
    ⟨0xDC, "NOP", .absx, .fixed 4, true, false, false, .read⟩,
    ⟨0xDD, "CMP", .absx, .fixed 4, true, false, true, .read⟩,
    ⟨0xDE, "DEC", .absx, .fixed 7, false, false, true, .rmw⟩,
    ⟨0xDF, "DCP", .absx, .fixed 7, false, false, false, .rmw⟩ ]

/-- R124: the rows of the opcodes $E0 to $EF. -/
def opcodePageE : List Row :=
  [ ⟨0xE0, "CPX", .imm, .fixed 2, false, false, true, .read⟩,
    ⟨0xE1, "SBC", .izx, .fixed 6, false, false, true, .read⟩,
    ⟨0xE2, "NOP", .imm, .fixed 2, false, false, false, .read⟩,
    ⟨0xE3, "ISB", .izx, .fixed 8, false, false, false, .rmw⟩,
    ⟨0xE4, "CPX", .zp, .fixed 3, false, false, true, .read⟩,
    ⟨0xE5, "SBC", .zp, .fixed 3, false, false, true, .read⟩,
    ⟨0xE6, "INC", .zp, .fixed 5, false, false, true, .rmw⟩,
    ⟨0xE7, "ISB", .zp, .fixed 5, false, false, false, .rmw⟩,
    ⟨0xE8, "INX", .impl, .fixed 2, false, false, true, .none⟩,
    ⟨0xE9, "SBC", .imm, .fixed 2, false, false, true, .read⟩,
    ⟨0xEA, "NOP", .impl, .fixed 2, false, false, true, .none⟩,
    ⟨0xEB, "SBC", .imm, .fixed 2, false, false, false, .read⟩,
    ⟨0xEC, "CPX", .abs, .fixed 4, false, false, true, .read⟩,
    ⟨0xED, "SBC", .abs, .fixed 4, false, false, true, .read⟩,
    ⟨0xEE, "INC", .abs, .fixed 6, false, false, true, .rmw⟩,
    ⟨0xEF, "ISB", .abs, .fixed 6, false, false, false, .rmw⟩ ]

/-- R124: the rows of the opcodes $F0 to $FF. -/
def opcodePageF : List Row :=
  [ ⟨0xF0, "BEQ", .rel, .fixed 2, false, true, true, .none⟩,
    ⟨0xF1, "SBC", .izy, .fixed 5, true, false, true, .read⟩,
    ⟨0xF2, "JAM", .impl, .jamCycles, false, false, false, .none⟩,
    ⟨0xF3, "ISB", .izy, .fixed 8, false, false, false, .rmw⟩,
    ⟨0xF4, "NOP", .zpx, .fixed 4, false, false, false, .read⟩,
    ⟨0xF5, "SBC", .zpx, .fixed 4, false, false, true, .read⟩,
    ⟨0xF6, "INC", .zpx, .fixed 6, false, false, true, .rmw⟩,
    ⟨0xF7, "ISB", .zpx, .fixed 6, false, false, false, .rmw⟩,
    ⟨0xF8, "SED", .impl, .fixed 2, false, false, true, .none⟩,
    ⟨0xF9, "SBC", .absy, .fixed 4, true, false, true, .read⟩,
    ⟨0xFA, "NOP", .impl, .fixed 2, false, false, false, .none⟩,
    ⟨0xFB, "ISB", .absy, .fixed 7, false, false, false, .rmw⟩,
    ⟨0xFC, "NOP", .absx, .fixed 4, true, false, false, .read⟩,
    ⟨0xFD, "SBC", .absx, .fixed 4, true, false, true, .read⟩,
    ⟨0xFE, "INC", .absx, .fixed 7, false, false, true, .rmw⟩,
    ⟨0xFF, "ISB", .absx, .fixed 7, false, false, false, .rmw⟩ ]

/-- R124: the opcode map, by high nibble. -/
def opcodePages : List (List Row) :=
  [opcodePage0, opcodePage1, opcodePage2, opcodePage3, opcodePage4, opcodePage5, opcodePage6, opcodePage7] ++
  [opcodePage8, opcodePage9, opcodePageA, opcodePageB, opcodePageC, opcodePageD, opcodePageE, opcodePageF]

/-- A row for the places `opcodePages` does not have; no byte reaches it. -/
def Row.noRow : Row := ⟨0x02, "JAM", .impl, .jamCycles, false, false, false, .none⟩

/-- R151: the row of an opcode. -/
def rowOf (op : Byte) : Row :=
  (opcodePages.getD (op.toNat / 16) []).getD (op.toNat % 16) Row.noRow

/-- R124: the instruction of the opcodes $00 to $0F; `c` is the low nibble, `b` the operand byte, `w` the operand word. -/
def decodePage0 (c : Nat) (b : Byte) (w : Addr) : Instr :=
  match c with
  | 0 => .brk
  | 1 => .oraIzx b
  | 2 => .jam02
  | 3 => .sloIzx b
  | 4 => .nopZp04 b
  | 5 => .oraZp b
  | 6 => .aslZp b
  | 7 => .sloZp b
  | 8 => .php
  | 9 => .oraImm b
  | 10 => .aslAcc
  | 11 => .ancImm0B b
  | 12 => .nopAbs w
  | 13 => .oraAbs w
  | 14 => .aslAbs w
  | _ => .sloAbs w

/-- R124: the instruction of the opcodes $10 to $1F; `c` is the low nibble, `b` the operand byte, `w` the operand word. -/
def decodePage1 (c : Nat) (b : Byte) (w : Addr) : Instr :=
  match c with
  | 0 => .bpl b
  | 1 => .oraIzy b
  | 2 => .jam12
  | 3 => .sloIzy b
  | 4 => .nopZpx14 b
  | 5 => .oraZpx b
  | 6 => .aslZpx b
  | 7 => .sloZpx b
  | 8 => .clc
  | 9 => .oraAbsy w
  | 10 => .nopImpl1A
  | 11 => .sloAbsy w
  | 12 => .nopAbsx1C w
  | 13 => .oraAbsx w
  | 14 => .aslAbsx w
  | _ => .sloAbsx w

/-- R124: the instruction of the opcodes $20 to $2F; `c` is the low nibble, `b` the operand byte, `w` the operand word. -/
def decodePage2 (c : Nat) (b : Byte) (w : Addr) : Instr :=
  match c with
  | 0 => .jsrAbs w
  | 1 => .andIzx b
  | 2 => .jam22
  | 3 => .rlaIzx b
  | 4 => .bitZp b
  | 5 => .andZp b
  | 6 => .rolZp b
  | 7 => .rlaZp b
  | 8 => .plp
  | 9 => .andImm b
  | 10 => .rolAcc
  | 11 => .ancImm2B b
  | 12 => .bitAbs w
  | 13 => .andAbs w
  | 14 => .rolAbs w
  | _ => .rlaAbs w

/-- R124: the instruction of the opcodes $30 to $3F; `c` is the low nibble, `b` the operand byte, `w` the operand word. -/
def decodePage3 (c : Nat) (b : Byte) (w : Addr) : Instr :=
  match c with
  | 0 => .bmi b
  | 1 => .andIzy b
  | 2 => .jam32
  | 3 => .rlaIzy b
  | 4 => .nopZpx34 b
  | 5 => .andZpx b
  | 6 => .rolZpx b
  | 7 => .rlaZpx b
  | 8 => .sec
  | 9 => .andAbsy w
  | 10 => .nopImpl3A
  | 11 => .rlaAbsy w
  | 12 => .nopAbsx3C w
  | 13 => .andAbsx w
  | 14 => .rolAbsx w
  | _ => .rlaAbsx w

/-- R124: the instruction of the opcodes $40 to $4F; `c` is the low nibble, `b` the operand byte, `w` the operand word. -/
def decodePage4 (c : Nat) (b : Byte) (w : Addr) : Instr :=
  match c with
  | 0 => .rti
  | 1 => .eorIzx b
  | 2 => .jam42
  | 3 => .sreIzx b
  | 4 => .nopZp44 b
  | 5 => .eorZp b
  | 6 => .lsrZp b
  | 7 => .sreZp b
  | 8 => .pha
  | 9 => .eorImm b
  | 10 => .lsrAcc
  | 11 => .alrImm b
  | 12 => .jmpAbs w
  | 13 => .eorAbs w
  | 14 => .lsrAbs w
  | _ => .sreAbs w

/-- R124: the instruction of the opcodes $50 to $5F; `c` is the low nibble, `b` the operand byte, `w` the operand word. -/
def decodePage5 (c : Nat) (b : Byte) (w : Addr) : Instr :=
  match c with
  | 0 => .bvc b
  | 1 => .eorIzy b
  | 2 => .jam52
  | 3 => .sreIzy b
  | 4 => .nopZpx54 b
  | 5 => .eorZpx b
  | 6 => .lsrZpx b
  | 7 => .sreZpx b
  | 8 => .cli
  | 9 => .eorAbsy w
  | 10 => .nopImpl5A
  | 11 => .sreAbsy w
  | 12 => .nopAbsx5C w
  | 13 => .eorAbsx w
  | 14 => .lsrAbsx w
  | _ => .sreAbsx w

/-- R124: the instruction of the opcodes $60 to $6F; `c` is the low nibble, `b` the operand byte, `w` the operand word. -/
def decodePage6 (c : Nat) (b : Byte) (w : Addr) : Instr :=
  match c with
  | 0 => .rts
  | 1 => .adcIzx b
  | 2 => .jam62
  | 3 => .rraIzx b
  | 4 => .nopZp64 b
  | 5 => .adcZp b
  | 6 => .rorZp b
  | 7 => .rraZp b
  | 8 => .pla
  | 9 => .adcImm b
  | 10 => .rorAcc
  | 11 => .arrImm b
  | 12 => .jmpInd w
  | 13 => .adcAbs w
  | 14 => .rorAbs w
  | _ => .rraAbs w

/-- R124: the instruction of the opcodes $70 to $7F; `c` is the low nibble, `b` the operand byte, `w` the operand word. -/
def decodePage7 (c : Nat) (b : Byte) (w : Addr) : Instr :=
  match c with
  | 0 => .bvs b
  | 1 => .adcIzy b
  | 2 => .jam72
  | 3 => .rraIzy b
  | 4 => .nopZpx74 b
  | 5 => .adcZpx b
  | 6 => .rorZpx b
  | 7 => .rraZpx b
  | 8 => .sei
  | 9 => .adcAbsy w
  | 10 => .nopImpl7A
  | 11 => .rraAbsy w
  | 12 => .nopAbsx7C w
  | 13 => .adcAbsx w
  | 14 => .rorAbsx w
  | _ => .rraAbsx w

/-- R124: the instruction of the opcodes $80 to $8F; `c` is the low nibble, `b` the operand byte, `w` the operand word. -/
def decodePage8 (c : Nat) (b : Byte) (w : Addr) : Instr :=
  match c with
  | 0 => .nopImm80 b
  | 1 => .staIzx b
  | 2 => .nopImm82 b
  | 3 => .saxIzx b
  | 4 => .styZp b
  | 5 => .staZp b
  | 6 => .stxZp b
  | 7 => .saxZp b
  | 8 => .dey
  | 9 => .nopImm89 b
  | 10 => .txa
  | 11 => .xaaImm b
  | 12 => .styAbs w
  | 13 => .staAbs w
  | 14 => .stxAbs w
  | _ => .saxAbs w

/-- R124: the instruction of the opcodes $90 to $9F; `c` is the low nibble, `b` the operand byte, `w` the operand word. -/
def decodePage9 (c : Nat) (b : Byte) (w : Addr) : Instr :=
  match c with
  | 0 => .bcc b
  | 1 => .staIzy b
  | 2 => .jam92
  | 3 => .ahxIzy b
  | 4 => .styZpx b
  | 5 => .staZpx b
  | 6 => .stxZpy b
  | 7 => .saxZpy b
  | 8 => .tya
  | 9 => .staAbsy w
  | 10 => .txs
  | 11 => .tasAbsy w
  | 12 => .shyAbsx w
  | 13 => .staAbsx w
  | 14 => .shxAbsy w
  | _ => .ahxAbsy w

/-- R124: the instruction of the opcodes $A0 to $AF; `c` is the low nibble, `b` the operand byte, `w` the operand word. -/
def decodePageA (c : Nat) (b : Byte) (w : Addr) : Instr :=
  match c with
  | 0 => .ldyImm b
  | 1 => .ldaIzx b
  | 2 => .ldxImm b
  | 3 => .laxIzx b
  | 4 => .ldyZp b
  | 5 => .ldaZp b
  | 6 => .ldxZp b
  | 7 => .laxZp b
  | 8 => .tay
  | 9 => .ldaImm b
  | 10 => .tax
  | 11 => .laxImm b
  | 12 => .ldyAbs w
  | 13 => .ldaAbs w
  | 14 => .ldxAbs w
  | _ => .laxAbs w

/-- R124: the instruction of the opcodes $B0 to $BF; `c` is the low nibble, `b` the operand byte, `w` the operand word. -/
def decodePageB (c : Nat) (b : Byte) (w : Addr) : Instr :=
  match c with
  | 0 => .bcs b
  | 1 => .ldaIzy b
  | 2 => .jamB2
  | 3 => .laxIzy b
  | 4 => .ldyZpx b
  | 5 => .ldaZpx b
  | 6 => .ldxZpy b
  | 7 => .laxZpy b
  | 8 => .clv
  | 9 => .ldaAbsy w
  | 10 => .tsx
  | 11 => .lasAbsy w
  | 12 => .ldyAbsx w
  | 13 => .ldaAbsx w
  | 14 => .ldxAbsy w
  | _ => .laxAbsy w

/-- R124: the instruction of the opcodes $C0 to $CF; `c` is the low nibble, `b` the operand byte, `w` the operand word. -/
def decodePageC (c : Nat) (b : Byte) (w : Addr) : Instr :=
  match c with
  | 0 => .cpyImm b
  | 1 => .cmpIzx b
  | 2 => .nopImmC2 b
  | 3 => .dcpIzx b
  | 4 => .cpyZp b
  | 5 => .cmpZp b
  | 6 => .decZp b
  | 7 => .dcpZp b
  | 8 => .iny
  | 9 => .cmpImm b
  | 10 => .dex
  | 11 => .axsImm b
  | 12 => .cpyAbs w
  | 13 => .cmpAbs w
  | 14 => .decAbs w
  | _ => .dcpAbs w

/-- R124: the instruction of the opcodes $D0 to $DF; `c` is the low nibble, `b` the operand byte, `w` the operand word. -/
def decodePageD (c : Nat) (b : Byte) (w : Addr) : Instr :=
  match c with
  | 0 => .bne b
  | 1 => .cmpIzy b
  | 2 => .jamD2
  | 3 => .dcpIzy b
  | 4 => .nopZpxD4 b
  | 5 => .cmpZpx b
  | 6 => .decZpx b
  | 7 => .dcpZpx b
  | 8 => .cld
  | 9 => .cmpAbsy w
  | 10 => .nopImplDA
  | 11 => .dcpAbsy w
  | 12 => .nopAbsxDC w
  | 13 => .cmpAbsx w
  | 14 => .decAbsx w
  | _ => .dcpAbsx w

/-- R124: the instruction of the opcodes $E0 to $EF; `c` is the low nibble, `b` the operand byte, `w` the operand word. -/
def decodePageE (c : Nat) (b : Byte) (w : Addr) : Instr :=
  match c with
  | 0 => .cpxImm b
  | 1 => .sbcIzx b
  | 2 => .nopImmE2 b
  | 3 => .isbIzx b
  | 4 => .cpxZp b
  | 5 => .sbcZp b
  | 6 => .incZp b
  | 7 => .isbZp b
  | 8 => .inx
  | 9 => .sbcImmE9 b
  | 10 => .nopImplEA
  | 11 => .sbcImmEB b
  | 12 => .cpxAbs w
  | 13 => .sbcAbs w
  | 14 => .incAbs w
  | _ => .isbAbs w

/-- R124: the instruction of the opcodes $F0 to $FF; `c` is the low nibble, `b` the operand byte, `w` the operand word. -/
def decodePageF (c : Nat) (b : Byte) (w : Addr) : Instr :=
  match c with
  | 0 => .beq b
  | 1 => .sbcIzy b
  | 2 => .jamF2
  | 3 => .isbIzy b
  | 4 => .nopZpxF4 b
  | 5 => .sbcZpx b
  | 6 => .incZpx b
  | 7 => .isbZpx b
  | 8 => .sed
  | 9 => .sbcAbsy w
  | 10 => .nopImplFA
  | 11 => .isbAbsy w
  | 12 => .nopAbsxFC w
  | 13 => .sbcAbsx w
  | 14 => .incAbsx w
  | _ => .isbAbsx w

/-- R125, R151: the instruction of opcode `op` whose operand bytes are `b1` and `b2`; a row that has fewer operand bytes
does not look at the others. -/
def decodeOp (op b1 b2 : Byte) : Instr :=
  let c := op.toNat % 16
  let w := wordOf b1 b2
  match op.toNat / 16 with
  | 0 => decodePage0 c b1 w
  | 1 => decodePage1 c b1 w
  | 2 => decodePage2 c b1 w
  | 3 => decodePage3 c b1 w
  | 4 => decodePage4 c b1 w
  | 5 => decodePage5 c b1 w
  | 6 => decodePage6 c b1 w
  | 7 => decodePage7 c b1 w
  | 8 => decodePage8 c b1 w
  | 9 => decodePage9 c b1 w
  | 10 => decodePageA c b1 w
  | 11 => decodePageB c b1 w
  | 12 => decodePageC c b1 w
  | 13 => decodePageD c b1 w
  | 14 => decodePageE c b1 w
  | _ => decodePageF c b1 w

/-- Why a list of bytes is no instruction. -/
inductive DecodeError where
  /-- There is no byte. -/
  | noBytes
  /-- The bytes end inside the instruction that opcode `op` begins. -/
  | truncated (op : Byte)
  deriving DecidableEq, Repr

/-- R120: read one instruction from the front of a list of bytes; answer it and the bytes after it. -/
def decode : List Byte → Except DecodeError (Instr × List Byte)
  | [] => .error .noBytes
  | op :: rest =>
    match (rowOf op).length, rest with
    | 1, r => .ok (decodeOp op 0 0, r)
    | 2, b1 :: r => .ok (decodeOp op b1 0, r)
    | 3, b1 :: b2 :: r => .ok (decodeOp op b1 b2, r)
    | _, _ => .error (.truncated op)

/-- R120: the bytes of an instruction of a one-byte operand. -/
def encode2 (op b1 : Byte) : List Byte := [op, b1]

/-- R120, R122: the bytes of an instruction of a 16-bit operand, low byte first. -/
def encode3 (op : Byte) (w : Addr) : List Byte := [op, lo w, hi w]

/-- R120 to R124: the bytes of an instruction, in address order. -/
def encode : Instr → List Byte
  | .brk => [0x00]
  | .oraIzx z => encode2 0x01 z
  | .jam02 => [0x02]
  | .sloIzx z => encode2 0x03 z
  | .nopZp04 z => encode2 0x04 z
  | .oraZp z => encode2 0x05 z
  | .aslZp z => encode2 0x06 z
  | .sloZp z => encode2 0x07 z
  | .php => [0x08]
  | .oraImm v => encode2 0x09 v
  | .aslAcc => [0x0A]
  | .ancImm0B v => encode2 0x0B v
  | .nopAbs w => encode3 0x0C w
  | .oraAbs w => encode3 0x0D w
  | .aslAbs w => encode3 0x0E w
  | .sloAbs w => encode3 0x0F w
  | .bpl o => encode2 0x10 o
  | .oraIzy z => encode2 0x11 z
  | .jam12 => [0x12]
  | .sloIzy z => encode2 0x13 z
  | .nopZpx14 z => encode2 0x14 z
  | .oraZpx z => encode2 0x15 z
  | .aslZpx z => encode2 0x16 z
  | .sloZpx z => encode2 0x17 z
  | .clc => [0x18]
  | .oraAbsy w => encode3 0x19 w
  | .nopImpl1A => [0x1A]
  | .sloAbsy w => encode3 0x1B w
  | .nopAbsx1C w => encode3 0x1C w
  | .oraAbsx w => encode3 0x1D w
  | .aslAbsx w => encode3 0x1E w
  | .sloAbsx w => encode3 0x1F w
  | .jsrAbs w => encode3 0x20 w
  | .andIzx z => encode2 0x21 z
  | .jam22 => [0x22]
  | .rlaIzx z => encode2 0x23 z
  | .bitZp z => encode2 0x24 z
  | .andZp z => encode2 0x25 z
  | .rolZp z => encode2 0x26 z
  | .rlaZp z => encode2 0x27 z
  | .plp => [0x28]
  | .andImm v => encode2 0x29 v
  | .rolAcc => [0x2A]
  | .ancImm2B v => encode2 0x2B v
  | .bitAbs w => encode3 0x2C w
  | .andAbs w => encode3 0x2D w
  | .rolAbs w => encode3 0x2E w
  | .rlaAbs w => encode3 0x2F w
  | .bmi o => encode2 0x30 o
  | .andIzy z => encode2 0x31 z
  | .jam32 => [0x32]
  | .rlaIzy z => encode2 0x33 z
  | .nopZpx34 z => encode2 0x34 z
  | .andZpx z => encode2 0x35 z
  | .rolZpx z => encode2 0x36 z
  | .rlaZpx z => encode2 0x37 z
  | .sec => [0x38]
  | .andAbsy w => encode3 0x39 w
  | .nopImpl3A => [0x3A]
  | .rlaAbsy w => encode3 0x3B w
  | .nopAbsx3C w => encode3 0x3C w
  | .andAbsx w => encode3 0x3D w
  | .rolAbsx w => encode3 0x3E w
  | .rlaAbsx w => encode3 0x3F w
  | .rti => [0x40]
  | .eorIzx z => encode2 0x41 z
  | .jam42 => [0x42]
  | .sreIzx z => encode2 0x43 z
  | .nopZp44 z => encode2 0x44 z
  | .eorZp z => encode2 0x45 z
  | .lsrZp z => encode2 0x46 z
  | .sreZp z => encode2 0x47 z
  | .pha => [0x48]
  | .eorImm v => encode2 0x49 v
  | .lsrAcc => [0x4A]
  | .alrImm v => encode2 0x4B v
  | .jmpAbs w => encode3 0x4C w
  | .eorAbs w => encode3 0x4D w
  | .lsrAbs w => encode3 0x4E w
  | .sreAbs w => encode3 0x4F w
  | .bvc o => encode2 0x50 o
  | .eorIzy z => encode2 0x51 z
  | .jam52 => [0x52]
  | .sreIzy z => encode2 0x53 z
  | .nopZpx54 z => encode2 0x54 z
  | .eorZpx z => encode2 0x55 z
  | .lsrZpx z => encode2 0x56 z
  | .sreZpx z => encode2 0x57 z
  | .cli => [0x58]
  | .eorAbsy w => encode3 0x59 w
  | .nopImpl5A => [0x5A]
  | .sreAbsy w => encode3 0x5B w
  | .nopAbsx5C w => encode3 0x5C w
  | .eorAbsx w => encode3 0x5D w
  | .lsrAbsx w => encode3 0x5E w
  | .sreAbsx w => encode3 0x5F w
  | .rts => [0x60]
  | .adcIzx z => encode2 0x61 z
  | .jam62 => [0x62]
  | .rraIzx z => encode2 0x63 z
  | .nopZp64 z => encode2 0x64 z
  | .adcZp z => encode2 0x65 z
  | .rorZp z => encode2 0x66 z
  | .rraZp z => encode2 0x67 z
  | .pla => [0x68]
  | .adcImm v => encode2 0x69 v
  | .rorAcc => [0x6A]
  | .arrImm v => encode2 0x6B v
  | .jmpInd w => encode3 0x6C w
  | .adcAbs w => encode3 0x6D w
  | .rorAbs w => encode3 0x6E w
  | .rraAbs w => encode3 0x6F w
  | .bvs o => encode2 0x70 o
  | .adcIzy z => encode2 0x71 z
  | .jam72 => [0x72]
  | .rraIzy z => encode2 0x73 z
  | .nopZpx74 z => encode2 0x74 z
  | .adcZpx z => encode2 0x75 z
  | .rorZpx z => encode2 0x76 z
  | .rraZpx z => encode2 0x77 z
  | .sei => [0x78]
  | .adcAbsy w => encode3 0x79 w
  | .nopImpl7A => [0x7A]
  | .rraAbsy w => encode3 0x7B w
  | .nopAbsx7C w => encode3 0x7C w
  | .adcAbsx w => encode3 0x7D w
  | .rorAbsx w => encode3 0x7E w
  | .rraAbsx w => encode3 0x7F w
  | .nopImm80 v => encode2 0x80 v
  | .staIzx z => encode2 0x81 z
  | .nopImm82 v => encode2 0x82 v
  | .saxIzx z => encode2 0x83 z
  | .styZp z => encode2 0x84 z
  | .staZp z => encode2 0x85 z
  | .stxZp z => encode2 0x86 z
  | .saxZp z => encode2 0x87 z
  | .dey => [0x88]
  | .nopImm89 v => encode2 0x89 v
  | .txa => [0x8A]
  | .xaaImm v => encode2 0x8B v
  | .styAbs w => encode3 0x8C w
  | .staAbs w => encode3 0x8D w
  | .stxAbs w => encode3 0x8E w
  | .saxAbs w => encode3 0x8F w
  | .bcc o => encode2 0x90 o
  | .staIzy z => encode2 0x91 z
  | .jam92 => [0x92]
  | .ahxIzy z => encode2 0x93 z
  | .styZpx z => encode2 0x94 z
  | .staZpx z => encode2 0x95 z
  | .stxZpy z => encode2 0x96 z
  | .saxZpy z => encode2 0x97 z
  | .tya => [0x98]
  | .staAbsy w => encode3 0x99 w
  | .txs => [0x9A]
  | .tasAbsy w => encode3 0x9B w
  | .shyAbsx w => encode3 0x9C w
  | .staAbsx w => encode3 0x9D w
  | .shxAbsy w => encode3 0x9E w
  | .ahxAbsy w => encode3 0x9F w
  | .ldyImm v => encode2 0xA0 v
  | .ldaIzx z => encode2 0xA1 z
  | .ldxImm v => encode2 0xA2 v
  | .laxIzx z => encode2 0xA3 z
  | .ldyZp z => encode2 0xA4 z
  | .ldaZp z => encode2 0xA5 z
  | .ldxZp z => encode2 0xA6 z
  | .laxZp z => encode2 0xA7 z
  | .tay => [0xA8]
  | .ldaImm v => encode2 0xA9 v
  | .tax => [0xAA]
  | .laxImm v => encode2 0xAB v
  | .ldyAbs w => encode3 0xAC w
  | .ldaAbs w => encode3 0xAD w
  | .ldxAbs w => encode3 0xAE w
  | .laxAbs w => encode3 0xAF w
  | .bcs o => encode2 0xB0 o
  | .ldaIzy z => encode2 0xB1 z
  | .jamB2 => [0xB2]
  | .laxIzy z => encode2 0xB3 z
  | .ldyZpx z => encode2 0xB4 z
  | .ldaZpx z => encode2 0xB5 z
  | .ldxZpy z => encode2 0xB6 z
  | .laxZpy z => encode2 0xB7 z
  | .clv => [0xB8]
  | .ldaAbsy w => encode3 0xB9 w
  | .tsx => [0xBA]
  | .lasAbsy w => encode3 0xBB w
  | .ldyAbsx w => encode3 0xBC w
  | .ldaAbsx w => encode3 0xBD w
  | .ldxAbsy w => encode3 0xBE w
  | .laxAbsy w => encode3 0xBF w
  | .cpyImm v => encode2 0xC0 v
  | .cmpIzx z => encode2 0xC1 z
  | .nopImmC2 v => encode2 0xC2 v
  | .dcpIzx z => encode2 0xC3 z
  | .cpyZp z => encode2 0xC4 z
  | .cmpZp z => encode2 0xC5 z
  | .decZp z => encode2 0xC6 z
  | .dcpZp z => encode2 0xC7 z
  | .iny => [0xC8]
  | .cmpImm v => encode2 0xC9 v
  | .dex => [0xCA]
  | .axsImm v => encode2 0xCB v
  | .cpyAbs w => encode3 0xCC w
  | .cmpAbs w => encode3 0xCD w
  | .decAbs w => encode3 0xCE w
  | .dcpAbs w => encode3 0xCF w
  | .bne o => encode2 0xD0 o
  | .cmpIzy z => encode2 0xD1 z
  | .jamD2 => [0xD2]
  | .dcpIzy z => encode2 0xD3 z
  | .nopZpxD4 z => encode2 0xD4 z
  | .cmpZpx z => encode2 0xD5 z
  | .decZpx z => encode2 0xD6 z
  | .dcpZpx z => encode2 0xD7 z
  | .cld => [0xD8]
  | .cmpAbsy w => encode3 0xD9 w
  | .nopImplDA => [0xDA]
  | .dcpAbsy w => encode3 0xDB w
  | .nopAbsxDC w => encode3 0xDC w
  | .cmpAbsx w => encode3 0xDD w
  | .decAbsx w => encode3 0xDE w
  | .dcpAbsx w => encode3 0xDF w
  | .cpxImm v => encode2 0xE0 v
  | .sbcIzx z => encode2 0xE1 z
  | .nopImmE2 v => encode2 0xE2 v
  | .isbIzx z => encode2 0xE3 z
  | .cpxZp z => encode2 0xE4 z
  | .sbcZp z => encode2 0xE5 z
  | .incZp z => encode2 0xE6 z
  | .isbZp z => encode2 0xE7 z
  | .inx => [0xE8]
  | .sbcImmE9 v => encode2 0xE9 v
  | .nopImplEA => [0xEA]
  | .sbcImmEB v => encode2 0xEB v
  | .cpxAbs w => encode3 0xEC w
  | .sbcAbs w => encode3 0xED w
  | .incAbs w => encode3 0xEE w
  | .isbAbs w => encode3 0xEF w
  | .beq o => encode2 0xF0 o
  | .sbcIzy z => encode2 0xF1 z
  | .jamF2 => [0xF2]
  | .isbIzy z => encode2 0xF3 z
  | .nopZpxF4 z => encode2 0xF4 z
  | .sbcZpx z => encode2 0xF5 z
  | .incZpx z => encode2 0xF6 z
  | .isbZpx z => encode2 0xF7 z
  | .sed => [0xF8]
  | .sbcAbsy w => encode3 0xF9 w
  | .nopImplFA => [0xFA]
  | .isbAbsy w => encode3 0xFB w
  | .nopAbsxFC w => encode3 0xFC w
  | .sbcAbsx w => encode3 0xFD w
  | .incAbsx w => encode3 0xFE w
  | .isbAbsx w => encode3 0xFF w

/-- R123: the opcode byte of an instruction. -/
def Instr.opcode (i : Instr) : Byte := (encode i).headD 0x02

/-- R151: the row of an instruction. -/
def Instr.row (i : Instr) : Row := rowOf i.opcode

/-- Byte `k` of the number `w` of `nbits` bits, as spec/opcode_table.json numbers the bits: byte 0 is the opcode, the next
byte is bits 15..8; the bits at and above `nbits` are 0. -/
def tableByte (nbits w k : Nat) : Byte := BitVec.ofNat 8 ((w % 2 ^ nbits) / 2 ^ (8 * k))

/-- The instruction `decode` reads from the three bytes of a table word, the bits above `nbits` zero. -/
def decodeTableWord (nbits w : Nat) : Option Instr :=
  match decode [tableByte nbits w 0, tableByte nbits w 1, tableByte nbits w 2] with
  | .ok (i, _) => some i
  | .error _ => none

end Sys2Proof
end

