-- ==== Sys2Proof/Config.lean ====
section
/-!
DEFINITION. What an implementation, a song file or the host fixes (00_scope.md R8), and the free values the spec leaves
to draws (R15). The parameters are plain data, gathered in `Params`; a state carries them, and no move changes them but
`init_song`, which maps its song file (log entries 1, 25). `Config.params` is what the state after reset carries: the spec's value where it gives one (the register
window, D13), and for an OPEN parameter a constant WITH NO BODY, so that nothing can be proved of its value but its
range. The free values are functions with no body too: a statement about one holds whatever it is.
-/

namespace Sys2Proof

/-- R8: `REGION`, which sets X at INIT and PLAY entry. -/
inductive TvRegion where
  | ntsc | pal
  deriving DecidableEq, Repr, Inhabited

/-- R436: the host's byte order, in which a 16-bit sample lies in the render buffer. -/
inductive ByteOrder where
  | little | big
  deriving DecidableEq, Repr, Inhabited

/-- R8, R48: what a song file gives. `image` lists the bytes of the program image by offset, strictly rising; an offset
below `imageLen` that is not listed holds 0, so that equal images are equal data (log entry 16). -/
structure SongFile where
  loadAddr   : Addr
  imageLen   : Nat
  image      : List Host.Cell
  initAddr   : Addr
  playAddr   : Addr
  totalSongs : Nat
  deriving DecidableEq, Repr

/-- R8, R52: the parameters of the step relation. -/
structure Params where
  file       : SongFile
  region     : TvRegion
  regLo      : Addr
  regHi      : Addr
  trapAddr   : Byte
  initBudget : Nat
  playBudget : Nat
  jamCycles  : Nat
  xaaMagic   : Byte
  lxaMagic   : Byte
  shGlitch   : Bool
  sampleRate : Nat
  ringCap    : Nat
  ringBits   : Nat
  hostOrder  : ByteOrder
  deriving DecidableEq, Repr

/-- R8, per NSF file: `INIT_ADDR` before any song file is mapped, no value of it known. -/
opaque Config.initAddr : Addr

/-- R8, per NSF file: `PLAY_ADDR` before any song file is mapped. -/
opaque Config.playAddr : Addr

/-- R8, per NSF file: `TOTAL_SONGS - 1` before any song file is mapped, so that `TOTAL_SONGS` is at least 1. -/
opaque Config.songCountIndex : Nat

/-- The song file's parameters before one is mapped: an image of no bytes, which leaves every address at or above $4000 outside
the register window unmapped whatever `loadAddr` is (R75, R77; DESIGN CHOICE, log entry 4); the entry points and the song count
are values in the ranges of R8 of which nothing more is known. `init_song` maps a file (R530, log entry 25). -/
def SongFile.unmapped : SongFile :=
  { loadAddr   := 0x0000
    imageLen   := 0
    image      := []
    initAddr   := Config.initAddr
    playAddr   := Config.playAddr
    totalSongs := Config.songCountIndex + 1 }

/-- D33, OPEN: `REGION`. -/
opaque Config.region : TvRegion

/-- D19, OPEN: `TRAP_ADDR`, in `0..$FC`. -/
opaque Config.trapIndex : Fin 0xFD

/-- D23, OPEN: `INIT_BUDGET`. -/
opaque Config.initBudget : Nat

/-- D23, OPEN: `PLAY_BUDGET`. -/
opaque Config.playBudget : Nat

/-- D9, OPEN: `JAM_CYCLES`. -/
opaque Config.jamCycles : Nat

/-- D17, OPEN: `XAA_MAGIC`. -/
opaque Config.xaaMagic : Byte

/-- D17, OPEN: `LXA_MAGIC`. -/
opaque Config.lxaMagic : Byte

/-- D18, OPEN: `SH_GLITCH`. -/
opaque Config.shGlitch : Bool

/-- D25: the host's choice of `SAMPLE_RATE - 1`, so that the rate lies in `1..65535`. -/
opaque Config.sampleRateIndex : Fin 65535

/-- D28: the host's choice of the logarithm of `RING_CAP`, a power of two in `1..2^31`. -/
opaque Config.ringCapLog : Fin 32

/-- D27, OPEN: `RING_BITS - 1`, so that `RING_BITS` lies in `1..16`. -/
opaque Config.ringBitsIndex : Fin 16

/-- R436: the host's byte order. -/
opaque Config.hostOrder : ByteOrder

/-- R8: the parameters the state after reset carries. -/
def Config.params : Params :=
  { file       := SongFile.unmapped
    region     := Config.region
    regLo      := 0x4000
    regHi      := 0x4017
    trapAddr   := BitVec.ofNat 8 Config.trapIndex.val
    initBudget := Config.initBudget
    playBudget := Config.playBudget
    jamCycles  := Config.jamCycles
    xaaMagic   := Config.xaaMagic
    lxaMagic   := Config.lxaMagic
    shGlitch   := Config.shGlitch
    sampleRate := Config.sampleRateIndex.val + 1
    ringCap    := 2 ^ Config.ringCapLog.val
    ringBits   := Config.ringBitsIndex.val + 1
    hostOrder  := Config.hostOrder }

/-- R73: FREE VALUE, the tone generator's answer to the `n`-th draw, a read of window address `a`. -/
opaque Config.toneRead : Nat → Addr → Byte

/-- R434: FREE VALUE, the unsigned 8-bit sample rendered at the `n`-th draw. -/
opaque Config.toneSample : Nat → Byte

/-- R520, D3: FREE VALUE, the byte drawn at the `n`-th draw for A, X, Y or the flags by `reset()`. -/
opaque Config.resetByte : Nat → Byte

/-- R521, D2: FREE VALUE, the power-on contents of the CPU registers, by number. -/
opaque Config.powerOnByte : Nat → Byte

/-- R521, D2: FREE VALUE, the power-on contents of RAM, by index. -/
opaque Config.powerOnRam : Nat → Byte

/-- R92, D30: FREE VALUE, how far the producer's `n`-th view of the read index has caught up. -/
opaque Config.readIndexView : Nat → Nat

/-- R92, D30: FREE VALUE, how far the consumer's `n`-th view of the write index has caught up. -/
opaque Config.writeIndexView : Nat → Nat

/-- R51: FREE VALUE, what a ring slot that was never written holds. -/
opaque Config.ringSlot : Nat → Elem

end Sys2Proof
end

