-- ==== Sys2Proof/Machine/State.lean ====
section
/-!
DEFINITION. The state of the block (10_state.md), as plain data, the reasons a step can stop, and the state right after
reset. INVENTORY.md lists each field with its rule, its width and its reset value.
-/

namespace Sys2Proof.Machine

/-- R79: an event of the bus trace, a register-window write or read. -/
inductive BusEvent where
  | wr (a : Addr) (v : Byte)
  | rd (a : Addr) (v : Byte)
  deriving DecidableEq, Repr

/-- R49, D24: the state of a launch. -/
inductive Status where
  | idle | running | trapped | budgetExhausted | jammed
  deriving DecidableEq, Repr

/-- R49: the host-side launch state. -/
structure Session where
  loaded : Bool
  song   : Nat
  status : Status
  deriving DecidableEq, Repr

/-- R51, R92: the ring buffer. `slots` lists the slots written, by slot number, strictly rising. `rSeen` is the value of `r`
the producer saw last, `wSeen` the value of `w` the consumer saw last. `rDraws` and `wDraws` are the model's own: they
number the draws of the two sides' stale views (log entry 8). -/
structure Ring where
  slots  : List (Nat × Elem)
  w      : Index
  r      : Index
  last   : Elem
  rSeen  : Index
  wSeen  : Index
  rDraws : Nat
  wDraws : Nat
  deriving DecidableEq, Repr

/-- R91, R94, R439: where a push in progress stands. `rest` are the elements still to append, `stored` the number stored:
before the read of `r`, before the slot write of `q`, before the publication of `w + 1` that makes `q` visible. -/
inductive Producer where
  | idle
  | observing (rest : List Elem) (stored : Nat)
  | storing (q : Elem) (rest : List Elem) (stored : Nat)
  | publishing (q : Elem) (rest : List Elem) (stored : Nat)
  deriving DecidableEq, Repr

/-- R91, R94, R440: where a pull in progress stands: no pull, or after its read of `w` (before the slot read), or before the
publication of `r + 1`, with the element it read. -/
inductive Consumer where
  | idle
  | reading
  | publishing (q : Elem)
  deriving DecidableEq, Repr

/-- The state. `a`, `x`, `y`, `sp`, `pc`, `p`, `cycles`, `jammed`: the CPU (R30 to R46). `ram`: R47. `trace`: the bus events
so far, oldest first (R79). `session`: R49. `acc`: R50. `ring`: R51. `producer`, `consumer`: R94. `params`: R52, no move
changes it but `init_song`, which maps its song file (log entry 25). `draws`: the model's own, the number of the next draw (log entry 6). -/
structure State where
  a        : Byte
  x        : Byte
  y        : Byte
  sp       : Byte
  pc       : Addr
  p        : Byte
  cycles   : Nat
  jammed   : Bool
  ram      : List Host.Cell
  trace    : List BusEvent
  session  : Session
  acc      : BitVec 32
  ring     : Ring
  producer : Producer
  consumer : Consumer
  params   : Params
  draws    : Nat
  deriving DecidableEq, Repr

/-- The faults that stop a step: none. The spec's one fault, `Jam` (R480, R482), has an effect the spec gives, a state with
`jammed` set, so the meaning of JAM takes it as a next state (log entry 10); no access, no encoding and no value faults
(R77, R127, R268). -/
inductive Fault where
  deriving DecidableEq, Repr

/-- The refusals. -/
inductive Refusal where
  /-- An instruction that has no meaning yet, raised by its arm of exec only. Safe: nothing can be proved of a run past it.
  Every instruction of this model has its meaning, so nothing raises it. -/
  | notModelled (mnemonic : String)
  deriving DecidableEq, Repr

/-- What a meaning, exec and step answer. -/
abbrev Result := Host.Outcome State Fault Refusal

/-- R51, D29: mid-scale, the initial last sample. -/
def midScale (ringBits : Nat) : Elem := BitVec.ofNat 16 (2 ^ (ringBits - 1))

/-- R51, R521: the ring before anything is pushed or pulled. -/
def Ring.initial (p : Params) : Ring :=
  { slots := [], w := 0, r := 0, last := midScale p.ringBits, rSeen := 0, wSeen := 0, rDraws := 0, wDraws := 0 }

/-- R49, R521: the session before a song is loaded; the song number has no meaning then (DESIGN CHOICE 1, log entry 15). -/
def Session.initial : Session := { loaded := false, song := 1, status := .idle }

/-- R520, R521: the state right after the first `reset()`, no image mapped. SP = $FD; P = $24 (I and R set); A, X, Y and
the flags C, Z, D, V, N are 0 by DESIGN CHOICE (log entry 2, unsafe: the spec says draws, D3); PC = Read16($FFFC), which is
$0000 since no image is mapped (R85; the lemma `reset_pc_is_vector` says so of the model's own bus). -/
def State.reset : State :=
  { a := 0x00, x := 0x00, y := 0x00, sp := 0xFD, pc := 0x0000, p := 0x24, cycles := 0, jammed := false,
    ram := [], trace := [], session := Session.initial, acc := 0,
    ring := Ring.initial Config.params, producer := .idle, consumer := .idle,
    params := Config.params, draws := 0 }

end Sys2Proof.Machine
end

