-- ==== Sys2Proof/Machine/Flags.lean ====
section
/-!
DEFINITION. The status register (10_state.md R36 to R44) and every flag computation: `SetNZ` (R13), the adder (R250), the
comparator (R251) and the shift primitives (R300). The six stored flags are read out of P and written back whole; every
write of P forces bit 5 to 1 and bit 4 to 0 (R41, R42, D1).
-/

namespace Sys2Proof.Machine

/-- R36, R41: the six flags that P stores. -/
structure Flags where
  n : Bool
  v : Bool
  d : Bool
  i : Bool
  z : Bool
  c : Bool
  deriving DecidableEq, Repr

/-- R36: the flags a byte holds at the bit positions of P; bits 5 and 4 are not looked at. -/
def flagsOf (p : Byte) : Flags :=
  { n := p.getLsbD 7, v := p.getLsbD 6, d := p.getLsbD 3, i := p.getLsbD 2, z := p.getLsbD 1, c := p.getLsbD 0 }

/-- R36, R41, R42: the value of P that holds the flags, bit 5 set and bit 4 clear. -/
def packFlags (f : Flags) : Byte :=
  (if f.n then 0x80 else 0x00) ||| (if f.v then 0x40 else 0x00) ||| 0x20 ||| (if f.d then 0x08 else 0x00) |||
    (if f.i then 0x04 else 0x00) ||| (if f.z then 0x02 else 0x00) ||| (if f.c then 0x01 else 0x00)

/-- The flags P holds. -/
def State.flags (s : State) : Flags := flagsOf s.p

/-- The state with P holding the flags `f`. -/
def State.setFlags (s : State) (f : Flags) : State := { s with p := packFlags f }

/-- R233, R334, D1: P after a pull of the byte `v`, `(v AND $CF) OR $20`. -/
def State.pullFlags (s : State) (v : Byte) : State := { s with p := (v &&& 0xCF) ||| 0x20 }

/-- R231, R333: the image of P that PHP and BRK push, B and R set. -/
def State.breakImage (s : State) : Byte := s.p ||| 0x30

/-- R484: the image of P that NMI and IRQ push, B clear and R set. -/
def State.interruptImage (s : State) : Byte := (s.p &&& ~~~0x10) ||| 0x20

/-- R13: `SetNZ(v)`: N is bit 7 of `v`, Z says that `v` is 0. -/
def setNZ (v : Byte) (s : State) : State := s.setFlags { s.flags with n := v.getLsbD 7, z := v == 0x00 }

/-- The flag C. -/
def setC (b : Bool) (s : State) : State := s.setFlags { s.flags with c := b }

/-- The flag V. -/
def setV (b : Bool) (s : State) : State := s.setFlags { s.flags with v := b }

/-- The flag D. -/
def setD (b : Bool) (s : State) : State := s.setFlags { s.flags with d := b }

/-- The flag I. -/
def setI (b : Bool) (s : State) : State := s.setFlags { s.flags with i := b }

/-- R250: the sum `s = a + b + c`, an unbounded integer. -/
def addSum (a b : Byte) (c : Bool) : Nat := a.toNat + b.toNat + c.toNat

/-- R250: `result` of `AddC(a, b, c)`. -/
def addResult (a b : Byte) (c : Bool) : Byte := BitVec.ofNat 8 (addSum a b c)

/-- R250: `carry` of `AddC(a, b, c)`. -/
def addCarry (a b : Byte) (c : Bool) : Bool := 256 ≤ addSum a b c

/-- R250: `ovf` of `AddC(a, b, c)`. -/
def addOverflow (a b : Byte) (c : Bool) : Bool :=
  ((a ^^^ addResult a b c) &&& (b ^^^ addResult a b c) &&& 0x80) != 0x00

/-- R253, R254: `(r, c, v) <- AddC(A, b, c); A <- r; C <- c; V <- v; SetNZ(A)`. -/
def addToA (b : Byte) (c : Bool) (s : State) : State :=
  setNZ (addResult s.a b c)
    (setV (addOverflow s.a b c) (setC (addCarry s.a b c) { s with a := addResult s.a b c }))

/-- R251: `Compare(r, m)`: C says `r >= m` unsigned, Z says they are equal, N is bit 7 of the difference. -/
def compare (r m : Byte) (s : State) : State :=
  s.setFlags { s.flags with c := decide (m ≤ r), z := r == m, n := (r - m).getLsbD 7 }

/-- R261: BIT: Z from `A AND m`, N and V from bits 7 and 6 of `m`. -/
def bitTest (m : Byte) (s : State) : State :=
  s.setFlags { s.flags with z := (s.a &&& m) == 0x00, n := m.getLsbD 7, v := m.getLsbD 6 }

/-- R300: `ASL8`, the result and the carry out. -/
def asl8 (v : Byte) : Byte × Bool := (v <<< 1, v.getLsbD 7)

/-- R300: `LSR8`. -/
def lsr8 (v : Byte) : Byte × Bool := (v >>> 1, v.getLsbD 0)

/-- R300: `ROL8`. -/
def rol8 (v : Byte) (c : Bool) : Byte × Bool := ((v <<< 1) ||| (if c then 0x01 else 0x00), v.getLsbD 7)

/-- R300: `ROR8`. -/
def ror8 (v : Byte) (c : Bool) : Byte × Bool := ((v >>> 1) ||| (if c then 0x80 else 0x00), v.getLsbD 0)

/-- R301 to R304: C takes the carry out `c` of a shift, N and Z the result `v`. -/
def setShift (v : Byte) (c : Bool) (s : State) : State := setNZ v (setC c s)

end Sys2Proof.Machine
end

