-- ==== Sys2Proof/Machine/Memory.lean ====
section
/-!
DEFINITION. A memory as plain data: a list of (index, byte) cells in one canonical form, the indices strictly rising and no
cell holding what an unlisted index reads as. RAM (10_state.md R47) and the program image (R48) are both held so. A read
never fails; a write keeps the form, so that equal memories are equal data.
-/

namespace Sys2Proof.Machine

/-- What an index that is not listed reads as: 0. For RAM before the first `init_song` this is a DESIGN CHOICE (log entry 3,
unsafe: the spec says a draw, D2); after it, RAM is cleared to this value (R530, D20). -/
def Memory.unlisted : Byte := 0x00

/-- The byte at index `i`. -/
def Memory.read : List Host.Cell → Nat → Byte
  | [], _ => Memory.unlisted
  | (k, v) :: rest, i => if k = i then v else Memory.read rest i

/-- The memory with no cell at index `i`. -/
def Memory.erase (m : List Host.Cell) (i : Nat) : List Host.Cell := m.filter (fun c => c.1 != i)

/-- The memory with the cell `(i, v)` put before the first cell of a greater index. -/
def Memory.insert : List Host.Cell → Nat → Byte → List Host.Cell
  | [], i, v => [(i, v)]
  | c :: rest, i, v => if i < c.1 then (i, v) :: c :: rest else c :: Memory.insert rest i v

/-- The memory with byte `v` at index `i`; writing the unlisted value leaves no cell there. -/
def Memory.write (m : List Host.Cell) (i : Nat) (v : Byte) : List Host.Cell :=
  if v = Memory.unlisted then Memory.erase m i else Memory.insert (Memory.erase m i) i v

/-- The canonical form: indices strictly rising, no cell holding the unlisted value. -/
abbrev Memory.wf (m : List Host.Cell) : Prop :=
  m.Pairwise (fun c d => c.1 < d.1) ∧ ∀ c ∈ m, c.2 ≠ Memory.unlisted

/-- Every listed index lies below `n`. -/
abbrev Memory.below (n : Nat) (m : List Host.Cell) : Prop := ∀ c ∈ m, c.1 < n

end Sys2Proof.Machine
end

