-- ==== Sys2Proof/Machine/Ops.lean ====
section
/-!
DEFINITION. The named operations over registers and memory: the Register Bus (20_memory.md R70 to R79), the 16-bit read
(00_scope.md R11), the stack (R12), taking an interrupt and BRK as one operation (60_exceptions.md R484, R333) and the return
from it (R334), and the fetch of an instruction (40_execution.md R150).
-/

namespace Sys2Proof.Machine

/-- R10: `A <- v`. -/
def State.setA (s : State) (v : Byte) : State := { s with a := v }

/-- R10: `X <- v`. -/
def State.setX (s : State) (v : Byte) : State := { s with x := v }

/-- R10: `Y <- v`. -/
def State.setY (s : State) (v : Byte) : State := { s with y := v }

/-- R10: `SP <- v`. -/
def State.setSP (s : State) (v : Byte) : State := { s with sp := v }

/-- R10: `PC <- v`. -/
def State.setPC (s : State) (v : Addr) : State := { s with pc := v }

/-- R150: `PC <- (PC + n) mod 2^16`. -/
def State.advance (s : State) (n : Nat) : State := { s with pc := s.pc + BitVec.ofNat 16 n }

/-- R10: `cycles <- cycles + n`. -/
def State.tick (s : State) (n : Nat) : State := { s with cycles := s.cycles + n }

/-- R46: `jammed <- b`. -/
def State.setJammed (s : State) (b : Bool) : State := { s with jammed := b }

/-- R47: the whole of RAM. -/
def State.setRam (s : State) (m : List Host.Cell) : State := { s with ram := m }

/-- R79: append an event to the bus trace. -/
def State.emit (s : State) (e : BusEvent) : State := { s with trace := s.trace ++ [e] }

/-- R73: count one draw of the tone generator. -/
def State.drawOne (s : State) : State := { s with draws := s.draws + 1 }

/-- R70: the regions of the Register Bus. -/
inductive Region where
  | ram (i : Nat)
  | registers
  | rom (off : Nat)
  | sram
  | unmapped
  deriving DecidableEq, Repr

/-- R70, D12: the region of an address; the first line that matches wins. -/
def region (p : Params) (a : Addr) : Region :=
  if a < 0x2000 then .ram (a &&& 0x07FF).toNat
  else if a ≤ 0x3FFF then .unmapped
  else if p.regLo ≤ a ∧ a ≤ p.regHi then .registers
  else if p.file.loadAddr ≤ a ∧ a.toNat - p.file.loadAddr.toNat < p.file.imageLen then
    .rom (a.toNat - p.file.loadAddr.toNat)
  else if p.file.loadAddr ≤ a then .unmapped
  else if 0x6000 ≤ a ∧ a ≤ 0x7FFF then .sram
  else .unmapped

/-- R11, R70 to R77: `Read8(a)`, a byte and the state after the read. A register-window read is answered by the tone
generator, a FREE VALUE, and is an event of the trace (R73, log entry 6); every other read leaves the state as it is. -/
def read8 (a : Addr) (s : State) : Byte × State :=
  match region s.params a with
  | .ram i => (Memory.read s.ram i, s)
  | .registers =>
    let v := Config.toneRead s.draws a
    (v, (s.emit (.rd a v)).drawOne)
  | .rom off => (Memory.read s.params.file.image off, s)
  | .sram => (0x00, s)
  | .unmapped => (0x00, s)

/-- R11, R70 to R77: `Write8(a, v)`. A RAM write stores, a register-window write is an event of the trace, every other write is
dropped. -/
def write8 (a : Addr) (v : Byte) (s : State) : State :=
  match region s.params a with
  | .ram i => s.setRam (Memory.write s.ram i v)
  | .registers => s.emit (.wr a v)
  | .rom _ => s
  | .sram => s
  | .unmapped => s

/-- R70 to R77: the byte of memory behind an address, and none in the register window, which is no memory (R73). -/
def peek (s : State) (a : Addr) : Option Byte :=
  match region s.params a with
  | .ram i => some (Memory.read s.ram i)
  | .registers => none
  | .rom off => some (Memory.read s.params.file.image off)
  | .sram => some 0x00
  | .unmapped => some 0x00

/-- R11, R80: `Read16(a)`, the low byte from `a`, then the high byte from `a + 1`. -/
def read16 (a : Addr) (s : State) : Addr × State :=
  let (l, s1) := read8 a s
  let (h, s2) := read8 (a + 1) s1
  (wordOf l h, s2)

/-- R12: the address of the stack byte that `sp` names. -/
def stackAddr (sp : Byte) : Addr := 0x0100 + sp.setWidth 16

/-- R12: `Push8(v)`. -/
def push8 (v : Byte) (s : State) : State :=
  let s1 := write8 (stackAddr s.sp) v s
  s1.setSP (s1.sp - 1)

/-- R12: `Pull8()`. -/
def pull8 (s : State) : Byte × State :=
  let s1 := s.setSP (s.sp + 1)
  read8 (stackAddr s1.sp) s1

/-- R12: `Push16(w)`, high byte first. -/
def push16 (w : Addr) (s : State) : State := push8 (lo w) (push8 (hi w) s)

/-- R12: `Pull16()`, low byte first. -/
def pull16 (s : State) : Addr × State :=
  let (l, s1) := pull8 s
  let (h, s2) := pull8 s1
  (wordOf l h, s2)

/-- R484, R333: take an interrupt or BRK: push the return address, push the image of P, set I, and go to the vector. D is not
changed. -/
def enter (ret : Addr) (image : Byte) (vector : Addr) (s : State) : State :=
  let s1 := setI true (push8 image (push16 ret s))
  let (target, s2) := read16 vector s1
  s2.setPC target

/-- R334, R490: return from an interrupt or BRK: pull P, then PC. -/
def leave (s : State) : State :=
  let (v, s1) := pull8 s
  let (target, s2) := pull16 (s1.pullFlags v)
  s2.setPC target

/-- R84: the NMI vector. -/
def nmiVector : Addr := 0xFFFA

/-- R84: the reset vector. -/
def resetVector : Addr := 0xFFFC

/-- R84: the IRQ vector, also BRK's. -/
def irqVector : Addr := 0xFFFE

/-- R156: whether a step does nothing. -/
def halted (s : State) : Bool := s.jammed

/-- R150, R88: fetch the instruction at PC: the opcode, then as many operand bytes as its row has, in address order, each a
bus read. PC does not move here. -/
def fetch (s : State) : Instr × State :=
  let (op, s1) := read8 s.pc s
  match (rowOf op).length with
  | 1 => (decodeOp op 0 0, s1)
  | 2 =>
    let (b1, s2) := read8 (s.pc + 1) s1
    (decodeOp op b1 0, s2)
  | _ =>
    let (b1, s2) := read8 (s.pc + 1) s1
    let (b2, s3) := read8 (s.pc + 2) s2
    (decodeOp op b1 b2, s3)

/-- Whether a byte placed at an address is what a fetch there reads: RAM or the image. -/
def placeable (p : Params) (a : Addr) : Bool :=
  match region p a with
  | .ram _ => true
  | .rom _ => true
  | .registers => false
  | .sram => false
  | .unmapped => false

/-- Place a byte where a fetch at `a` reads it, in RAM or in the program image: the load of a program from outside the machine,
no bus access (log entry 4). -/
def place (a : Addr) (v : Byte) (s : State) : State :=
  match region s.params a with
  | .ram i => s.setRam (Memory.write s.ram i v)
  | .rom off =>
    { s with params := { s.params with file := { s.params.file with image := Memory.write s.params.file.image off v } } }
  | .registers => s
  | .sram => s
  | .unmapped => s

end Sys2Proof.Machine
end

