-- ==== Sys2Proof/Machine/Operands.lean ====
section
/-!
DEFINITION. The operand forms (40_execution.md R160 to R174) and the shapes the instructions share: a read-kind instruction,
a store, a read-modify-write instruction, an instruction with no memory operand, a branch. Each advances PC past the
instruction, resolves the operand from the registers as they are before the instruction (R174), makes exactly the accesses
of its rule (R173, D11), and adds its cycles (R152).
-/

namespace Sys2Proof.Machine

/-- What resolving a memory operand gives: the effective address, the address before indexing (R395), and whether indexing
crossed a page (R167, R168, R171). -/
structure Resolved where
  ea      : Addr
  base    : Addr
  crossed : Bool
  deriving DecidableEq, Repr

/-- An address reached with no page cross counted. -/
def Resolved.plain (ea : Addr) : Resolved := { ea := ea, base := ea, crossed := false }

/-- R167, R168, R171: an address indexed by a byte, mod 2^16; `crossed` says the high byte changed. -/
def Resolved.indexed (base : Addr) (i : Byte) : Resolved :=
  let ea := base + i.setWidth 16
  { ea := ea, base := base, crossed := hi base != hi ea }

/-- R163: the zero-page address of a byte. -/
def zeroPage (z : Byte) : Addr := z.setWidth 16

/-- R170, R171: the pointer at zero-page address `z`, its high byte from `(z + 1) mod 256`. -/
def pointerAt (z : Byte) (s : State) : Addr × State :=
  let (l, s1) := read8 (zeroPage z) s
  let (h, s2) := read8 (zeroPage (z + 1)) s1
  (wordOf l h, s2)

/-- R163 to R171: resolve a memory operand; the pointer modes read their pointer through the bus. -/
def resolve (m : MemOperand) (s : State) : Resolved × State :=
  match m with
  | .zp z => (Resolved.plain (zeroPage z), s)
  | .zpx z => (Resolved.plain (zeroPage (z + s.x)), s)
  | .zpy z => (Resolved.plain (zeroPage (z + s.y)), s)
  | .abs w => (Resolved.plain w, s)
  | .absx w => (Resolved.indexed w s.x, s)
  | .absy w => (Resolved.indexed w s.y, s)
  | .izx z =>
    let (p, s1) := pointerAt (z + s.x) s
    (Resolved.plain p, s1)
  | .izy z =>
    let (p, s1) := pointerAt z s
    (Resolved.indexed p s.y, s1)

/-- R121: the length of an instruction with a memory operand. -/
def memLength : MemOperand → Nat
  | .zp _ => 2
  | .zpx _ => 2
  | .zpy _ => 2
  | .abs _ => 3
  | .absx _ => 3
  | .absy _ => 3
  | .izx _ => 2
  | .izy _ => 2

/-- R121: the length of a read-kind instruction. -/
def readLength : ReadOperand → Nat
  | .imm _ => 2
  | .mem m => memLength m

/-- What reading an operand gives: the byte M, the penalty of a page cross (R152, R153), and the state after the accesses. -/
structure ReadByte where
  byte    : Byte
  penalty : Nat
  after   : State
  deriving DecidableEq, Repr

/-- R162, R173: the operand byte M of a read-kind instruction. -/
def readOperand (o : ReadOperand) (s : State) : ReadByte :=
  match o with
  | .imm v => { byte := v, penalty := 0, after := s }
  | .mem m =>
    let (r, s1) := resolve m s
    let (b, s2) := read8 r.ea s1
    { byte := b, penalty := r.crossed.toNat, after := s2 }

/-- R173 `read`: a read-kind instruction: `effect M` after the read; a page cross adds one cycle (R152, R153). -/
def readInstr (cycles : Nat) (o : ReadOperand) (effect : Byte → State → State) (s : State) : Result :=
  let r := readOperand o (s.advance (readLength o))
  .next ((effect r.byte r.after).tick (cycles + r.penalty))

/-- R173 `write`: a store of `value`, read from the registers: one write, no read of EA, no penalty. -/
def storeInstr (cycles : Nat) (m : MemOperand) (value : State → Byte) (s : State) : Result :=
  let (r, s1) := resolve m (s.advance (memLength m))
  .next ((write8 r.ea (value s1) s1).tick cycles)

/-- R173 `rmw`: a read-modify-write: one read of EA, one write of `f m` there, then `after` on the value written and the carry
out, no penalty. -/
def rmwInstr (cycles : Nat) (m : MemOperand) (f : Byte → State → Byte × Bool) (after : Byte → Bool → State → State)
    (s : State) : Result :=
  let (r, s1) := resolve m (s.advance (memLength m))
  let (b, s2) := read8 r.ea s1
  let (v, c) := f b s2
  .next ((after v c (write8 r.ea v s2)).tick cycles)

/-- R160: an instruction of one byte. -/
def impliedInstr (cycles : Nat) (effect : State → State) (s : State) : Result :=
  .next ((effect (s.advance 1)).tick cycles)

/-- R161: a shift or rotate of A. -/
def accInstr (f : Byte → State → Byte × Bool) (s : State) : Result :=
  impliedInstr 2 (fun t => let (v, c) := f t.a t; setShift v c (t.setA v)) s

/-- R395: `SHStore(u)`: `u AND (hi(base) + 1)` to EA, or, where `SH_GLITCH` holds and indexing crossed a page, to the address whose
high byte is that value. -/
def shStore (u : Byte) (r : Resolved) (s : State) : State :=
  let v := u &&& (hi r.base + 1)
  let addr := if r.crossed && s.params.shGlitch then wordOf (lo r.ea) v else r.ea
  write8 addr v s

/-- R386 to R389: a high-byte store of `value`; `effect` is what the instruction does to the registers. -/
def shInstr (cycles : Nat) (m : MemOperand) (value : State → Byte) (effect : State → State) (s : State) : Result :=
  let (r, s1) := resolve m (s.advance (memLength m))
  .next ((shStore (value s1) r (effect s1)).tick cycles)

/-- R172: the target of a branch, from the address of the next instruction. -/
def branchTarget (next : Addr) (o : Byte) : Addr := next + o.signExtend 16

/-- R320: the cycles a taken branch adds. -/
def branchPenalty (next target : Addr) : Nat := 1 + (hi next != hi target).toNat

/-- R320: a branch on `cond`. -/
def branchInstr (cond : Bool) (o : Byte) (s : State) : Result :=
  let s1 := s.advance 2
  let target := branchTarget s1.pc o
  if cond then .next ((s1.setPC target).tick (2 + branchPenalty s1.pc target))
  else .next (s1.tick 2)

end Sys2Proof.Machine
end

