-- ==== Sys2Proof/Machine/LoadStore.lean ====
section
/-!
DEFINITION. Loads, stores and register transfers (41_load_store_transfer.md R201 to R212). No instruction here faults.
-/

namespace Sys2Proof.Machine

/-- R201: `A <- M; SetNZ(A)`. -/
def loadA (m : Byte) (s : State) : State := setNZ m (s.setA m)

/-- R202: `X <- M; SetNZ(X)`. -/
def loadX (m : Byte) (s : State) : State := setNZ m (s.setX m)

/-- R203: `Y <- M; SetNZ(Y)`. -/
def loadY (m : Byte) (s : State) : State := setNZ m (s.setY m)

/-- R201, $A1 `LDA ($nn,X)`. -/
def execLdaIzx (z : Byte) (s : State) : Result :=
  readInstr 6 (.mem (.izx z)) loadA s

/-- R201, $A5 `LDA $nn`. -/
def execLdaZp (z : Byte) (s : State) : Result :=
  readInstr 3 (.mem (.zp z)) loadA s

/-- R201, $A9 `LDA #$nn`. -/
def execLdaImm (v : Byte) (s : State) : Result :=
  readInstr 2 (.imm v) loadA s

/-- R201, $AD `LDA $hhll`. -/
def execLdaAbs (w : Addr) (s : State) : Result :=
  readInstr 4 (.mem (.abs w)) loadA s

/-- R201, $B1 `LDA ($nn),Y`. -/
def execLdaIzy (z : Byte) (s : State) : Result :=
  readInstr 5 (.mem (.izy z)) loadA s

/-- R201, $B5 `LDA $nn,X`. -/
def execLdaZpx (z : Byte) (s : State) : Result :=
  readInstr 4 (.mem (.zpx z)) loadA s

/-- R201, $B9 `LDA $hhll,Y`. -/
def execLdaAbsy (w : Addr) (s : State) : Result :=
  readInstr 4 (.mem (.absy w)) loadA s

/-- R201, $BD `LDA $hhll,X`. -/
def execLdaAbsx (w : Addr) (s : State) : Result :=
  readInstr 4 (.mem (.absx w)) loadA s

/-- R202, $A2 `LDX #$nn`. -/
def execLdxImm (v : Byte) (s : State) : Result :=
  readInstr 2 (.imm v) loadX s

/-- R202, $A6 `LDX $nn`. -/
def execLdxZp (z : Byte) (s : State) : Result :=
  readInstr 3 (.mem (.zp z)) loadX s

/-- R202, $AE `LDX $hhll`. -/
def execLdxAbs (w : Addr) (s : State) : Result :=
  readInstr 4 (.mem (.abs w)) loadX s

/-- R202, $B6 `LDX $nn,Y`. -/
def execLdxZpy (z : Byte) (s : State) : Result :=
  readInstr 4 (.mem (.zpy z)) loadX s

/-- R202, $BE `LDX $hhll,Y`. -/
def execLdxAbsy (w : Addr) (s : State) : Result :=
  readInstr 4 (.mem (.absy w)) loadX s

/-- R203, $A0 `LDY #$nn`. -/
def execLdyImm (v : Byte) (s : State) : Result :=
  readInstr 2 (.imm v) loadY s

/-- R203, $A4 `LDY $nn`. -/
def execLdyZp (z : Byte) (s : State) : Result :=
  readInstr 3 (.mem (.zp z)) loadY s

/-- R203, $AC `LDY $hhll`. -/
def execLdyAbs (w : Addr) (s : State) : Result :=
  readInstr 4 (.mem (.abs w)) loadY s

/-- R203, $B4 `LDY $nn,X`. -/
def execLdyZpx (z : Byte) (s : State) : Result :=
  readInstr 4 (.mem (.zpx z)) loadY s

/-- R203, $BC `LDY $hhll,X`. -/
def execLdyAbsx (w : Addr) (s : State) : Result :=
  readInstr 4 (.mem (.absx w)) loadY s

/-- R204, $81 `STA ($nn,X)`. -/
def execStaIzx (z : Byte) (s : State) : Result :=
  storeInstr 6 (.izx z) State.a s

/-- R204, $85 `STA $nn`. -/
def execStaZp (z : Byte) (s : State) : Result :=
  storeInstr 3 (.zp z) State.a s

/-- R204, $8D `STA $hhll`. -/
def execStaAbs (w : Addr) (s : State) : Result :=
  storeInstr 4 (.abs w) State.a s

/-- R204, $91 `STA ($nn),Y`. -/
def execStaIzy (z : Byte) (s : State) : Result :=
  storeInstr 6 (.izy z) State.a s

/-- R204, $95 `STA $nn,X`. -/
def execStaZpx (z : Byte) (s : State) : Result :=
  storeInstr 4 (.zpx z) State.a s

/-- R204, $99 `STA $hhll,Y`. -/
def execStaAbsy (w : Addr) (s : State) : Result :=
  storeInstr 5 (.absy w) State.a s

/-- R204, $9D `STA $hhll,X`. -/
def execStaAbsx (w : Addr) (s : State) : Result :=
  storeInstr 5 (.absx w) State.a s

/-- R205, $86 `STX $nn`. -/
def execStxZp (z : Byte) (s : State) : Result :=
  storeInstr 3 (.zp z) State.x s

/-- R205, $8E `STX $hhll`. -/
def execStxAbs (w : Addr) (s : State) : Result :=
  storeInstr 4 (.abs w) State.x s

/-- R205, $96 `STX $nn,Y`. -/
def execStxZpy (z : Byte) (s : State) : Result :=
  storeInstr 4 (.zpy z) State.x s

/-- R206, $84 `STY $nn`. -/
def execStyZp (z : Byte) (s : State) : Result :=
  storeInstr 3 (.zp z) State.y s

/-- R206, $8C `STY $hhll`. -/
def execStyAbs (w : Addr) (s : State) : Result :=
  storeInstr 4 (.abs w) State.y s

/-- R206, $94 `STY $nn,X`. -/
def execStyZpx (z : Byte) (s : State) : Result :=
  storeInstr 4 (.zpx z) State.y s

/-- R207, $AA `TAX`. -/
def execTax (s : State) : Result :=
  impliedInstr 2 (fun t => loadX t.a t) s

/-- R208, $A8 `TAY`. -/
def execTay (s : State) : Result :=
  impliedInstr 2 (fun t => loadY t.a t) s

/-- R209, $8A `TXA`. -/
def execTxa (s : State) : Result :=
  impliedInstr 2 (fun t => loadA t.x t) s

/-- R210, $98 `TYA`. -/
def execTya (s : State) : Result :=
  impliedInstr 2 (fun t => loadA t.y t) s

/-- R211, $BA `TSX`. -/
def execTsx (s : State) : Result :=
  impliedInstr 2 (fun t => loadX t.sp t) s

/-- R212, $9A `TXS`. -/
def execTxs (s : State) : Result :=
  impliedInstr 2 (fun t => t.setSP t.x) s

end Sys2Proof.Machine
end

