-- ==== Sys2Proof/Machine/Alu.lean ====
section
/-!
DEFINITION. Arithmetic, logic, compare and increment (43_alu.md R250 to R268). Binary whatever D is (R252); nothing here faults.
-/

namespace Sys2Proof.Machine

/-- R253: ADC: `(A, C, V) <- AddC(A, M, C); SetNZ(A)`. -/
def adc (m : Byte) (s : State) : State := addToA m s.flags.c s

/-- R254, R390: SBC: `(A, C, V) <- AddC(A, M XOR $FF, C); SetNZ(A)`. -/
def sbc (m : Byte) (s : State) : State := addToA (m ^^^ 0xFF) s.flags.c s

/-- R255: `A <- A AND M; SetNZ(A)`. -/
def andA (m : Byte) (s : State) : State := loadA (s.a &&& m) s

/-- R256: `A <- A OR M; SetNZ(A)`. -/
def oraA (m : Byte) (s : State) : State := loadA (s.a ||| m) s

/-- R257: `A <- A XOR M; SetNZ(A)`. -/
def eorA (m : Byte) (s : State) : State := loadA (s.a ^^^ m) s

/-- R258: `Compare(A, M)`. -/
def cmpA (m : Byte) (s : State) : State := compare s.a m s

/-- R259: `Compare(X, M)`. -/
def cmpX (m : Byte) (s : State) : State := compare s.x m s

/-- R260: `Compare(Y, M)`. -/
def cmpY (m : Byte) (s : State) : State := compare s.y m s

/-- R262: `v <- (m + 1) mod 256`; no carry out. -/
def incByte (m : Byte) (_ : State) : Byte × Bool := (m + 1, false)

/-- R263: `v <- (m - 1) mod 256`; no carry out. -/
def decByte (m : Byte) (_ : State) : Byte × Bool := (m - 1, false)

/-- R262, R263: `SetNZ(v)`. -/
def afterStep (v : Byte) (_ : Bool) (s : State) : State := setNZ v s

/-- R253, $61 `ADC ($nn,X)`. -/
def execAdcIzx (z : Byte) (s : State) : Result :=
  readInstr 6 (.mem (.izx z)) adc s

/-- R253, $65 `ADC $nn`. -/
def execAdcZp (z : Byte) (s : State) : Result :=
  readInstr 3 (.mem (.zp z)) adc s

/-- R253, $69 `ADC #$nn`. -/
def execAdcImm (v : Byte) (s : State) : Result :=
  readInstr 2 (.imm v) adc s

/-- R253, $6D `ADC $hhll`. -/
def execAdcAbs (w : Addr) (s : State) : Result :=
  readInstr 4 (.mem (.abs w)) adc s

/-- R253, $71 `ADC ($nn),Y`. -/
def execAdcIzy (z : Byte) (s : State) : Result :=
  readInstr 5 (.mem (.izy z)) adc s

/-- R253, $75 `ADC $nn,X`. -/
def execAdcZpx (z : Byte) (s : State) : Result :=
  readInstr 4 (.mem (.zpx z)) adc s

/-- R253, $79 `ADC $hhll,Y`. -/
def execAdcAbsy (w : Addr) (s : State) : Result :=
  readInstr 4 (.mem (.absy w)) adc s

/-- R253, $7D `ADC $hhll,X`. -/
def execAdcAbsx (w : Addr) (s : State) : Result :=
  readInstr 4 (.mem (.absx w)) adc s

/-- R254, $E1 `SBC ($nn,X)`. -/
def execSbcIzx (z : Byte) (s : State) : Result :=
  readInstr 6 (.mem (.izx z)) sbc s

/-- R254, $E5 `SBC $nn`. -/
def execSbcZp (z : Byte) (s : State) : Result :=
  readInstr 3 (.mem (.zp z)) sbc s

/-- R254, $E9 `SBC #$nn`. -/
def execSbcImmE9 (v : Byte) (s : State) : Result :=
  readInstr 2 (.imm v) sbc s

/-- R254, $ED `SBC $hhll`. -/
def execSbcAbs (w : Addr) (s : State) : Result :=
  readInstr 4 (.mem (.abs w)) sbc s

/-- R254, $F1 `SBC ($nn),Y`. -/
def execSbcIzy (z : Byte) (s : State) : Result :=
  readInstr 5 (.mem (.izy z)) sbc s

/-- R254, $F5 `SBC $nn,X`. -/
def execSbcZpx (z : Byte) (s : State) : Result :=
  readInstr 4 (.mem (.zpx z)) sbc s

/-- R254, $F9 `SBC $hhll,Y`. -/
def execSbcAbsy (w : Addr) (s : State) : Result :=
  readInstr 4 (.mem (.absy w)) sbc s

/-- R254, $FD `SBC $hhll,X`. -/
def execSbcAbsx (w : Addr) (s : State) : Result :=
  readInstr 4 (.mem (.absx w)) sbc s

/-- R255, $21 `AND ($nn,X)`. -/
def execAndIzx (z : Byte) (s : State) : Result :=
  readInstr 6 (.mem (.izx z)) andA s

/-- R255, $25 `AND $nn`. -/
def execAndZp (z : Byte) (s : State) : Result :=
  readInstr 3 (.mem (.zp z)) andA s

/-- R255, $29 `AND #$nn`. -/
def execAndImm (v : Byte) (s : State) : Result :=
  readInstr 2 (.imm v) andA s

/-- R255, $2D `AND $hhll`. -/
def execAndAbs (w : Addr) (s : State) : Result :=
  readInstr 4 (.mem (.abs w)) andA s

/-- R255, $31 `AND ($nn),Y`. -/
def execAndIzy (z : Byte) (s : State) : Result :=
  readInstr 5 (.mem (.izy z)) andA s

/-- R255, $35 `AND $nn,X`. -/
def execAndZpx (z : Byte) (s : State) : Result :=
  readInstr 4 (.mem (.zpx z)) andA s

/-- R255, $39 `AND $hhll,Y`. -/
def execAndAbsy (w : Addr) (s : State) : Result :=
  readInstr 4 (.mem (.absy w)) andA s

/-- R255, $3D `AND $hhll,X`. -/
def execAndAbsx (w : Addr) (s : State) : Result :=
  readInstr 4 (.mem (.absx w)) andA s

/-- R256, $01 `ORA ($nn,X)`. -/
def execOraIzx (z : Byte) (s : State) : Result :=
  readInstr 6 (.mem (.izx z)) oraA s

/-- R256, $05 `ORA $nn`. -/
def execOraZp (z : Byte) (s : State) : Result :=
  readInstr 3 (.mem (.zp z)) oraA s

/-- R256, $09 `ORA #$nn`. -/
def execOraImm (v : Byte) (s : State) : Result :=
  readInstr 2 (.imm v) oraA s

/-- R256, $0D `ORA $hhll`. -/
def execOraAbs (w : Addr) (s : State) : Result :=
  readInstr 4 (.mem (.abs w)) oraA s

/-- R256, $11 `ORA ($nn),Y`. -/
def execOraIzy (z : Byte) (s : State) : Result :=
  readInstr 5 (.mem (.izy z)) oraA s

/-- R256, $15 `ORA $nn,X`. -/
def execOraZpx (z : Byte) (s : State) : Result :=
  readInstr 4 (.mem (.zpx z)) oraA s

/-- R256, $19 `ORA $hhll,Y`. -/
def execOraAbsy (w : Addr) (s : State) : Result :=
  readInstr 4 (.mem (.absy w)) oraA s

/-- R256, $1D `ORA $hhll,X`. -/
def execOraAbsx (w : Addr) (s : State) : Result :=
  readInstr 4 (.mem (.absx w)) oraA s

/-- R257, $41 `EOR ($nn,X)`. -/
def execEorIzx (z : Byte) (s : State) : Result :=
  readInstr 6 (.mem (.izx z)) eorA s

/-- R257, $45 `EOR $nn`. -/
def execEorZp (z : Byte) (s : State) : Result :=
  readInstr 3 (.mem (.zp z)) eorA s

/-- R257, $49 `EOR #$nn`. -/
def execEorImm (v : Byte) (s : State) : Result :=
  readInstr 2 (.imm v) eorA s

/-- R257, $4D `EOR $hhll`. -/
def execEorAbs (w : Addr) (s : State) : Result :=
  readInstr 4 (.mem (.abs w)) eorA s

/-- R257, $51 `EOR ($nn),Y`. -/
def execEorIzy (z : Byte) (s : State) : Result :=
  readInstr 5 (.mem (.izy z)) eorA s

/-- R257, $55 `EOR $nn,X`. -/
def execEorZpx (z : Byte) (s : State) : Result :=
  readInstr 4 (.mem (.zpx z)) eorA s

/-- R257, $59 `EOR $hhll,Y`. -/
def execEorAbsy (w : Addr) (s : State) : Result :=
  readInstr 4 (.mem (.absy w)) eorA s

/-- R257, $5D `EOR $hhll,X`. -/
def execEorAbsx (w : Addr) (s : State) : Result :=
  readInstr 4 (.mem (.absx w)) eorA s

/-- R258, $C1 `CMP ($nn,X)`. -/
def execCmpIzx (z : Byte) (s : State) : Result :=
  readInstr 6 (.mem (.izx z)) cmpA s

/-- R258, $C5 `CMP $nn`. -/
def execCmpZp (z : Byte) (s : State) : Result :=
  readInstr 3 (.mem (.zp z)) cmpA s

/-- R258, $C9 `CMP #$nn`. -/
def execCmpImm (v : Byte) (s : State) : Result :=
  readInstr 2 (.imm v) cmpA s

/-- R258, $CD `CMP $hhll`. -/
def execCmpAbs (w : Addr) (s : State) : Result :=
  readInstr 4 (.mem (.abs w)) cmpA s

/-- R258, $D1 `CMP ($nn),Y`. -/
def execCmpIzy (z : Byte) (s : State) : Result :=
  readInstr 5 (.mem (.izy z)) cmpA s

/-- R258, $D5 `CMP $nn,X`. -/
def execCmpZpx (z : Byte) (s : State) : Result :=
  readInstr 4 (.mem (.zpx z)) cmpA s

/-- R258, $D9 `CMP $hhll,Y`. -/
def execCmpAbsy (w : Addr) (s : State) : Result :=
  readInstr 4 (.mem (.absy w)) cmpA s

/-- R258, $DD `CMP $hhll,X`. -/
def execCmpAbsx (w : Addr) (s : State) : Result :=
  readInstr 4 (.mem (.absx w)) cmpA s

/-- R259, $E0 `CPX #$nn`. -/
def execCpxImm (v : Byte) (s : State) : Result :=
  readInstr 2 (.imm v) cmpX s

/-- R259, $E4 `CPX $nn`. -/
def execCpxZp (z : Byte) (s : State) : Result :=
  readInstr 3 (.mem (.zp z)) cmpX s

/-- R259, $EC `CPX $hhll`. -/
def execCpxAbs (w : Addr) (s : State) : Result :=
  readInstr 4 (.mem (.abs w)) cmpX s

/-- R260, $C0 `CPY #$nn`. -/
def execCpyImm (v : Byte) (s : State) : Result :=
  readInstr 2 (.imm v) cmpY s

/-- R260, $C4 `CPY $nn`. -/
def execCpyZp (z : Byte) (s : State) : Result :=
  readInstr 3 (.mem (.zp z)) cmpY s

/-- R260, $CC `CPY $hhll`. -/
def execCpyAbs (w : Addr) (s : State) : Result :=
  readInstr 4 (.mem (.abs w)) cmpY s

/-- R261, $24 `BIT $nn`. -/
def execBitZp (z : Byte) (s : State) : Result :=
  readInstr 3 (.mem (.zp z)) bitTest s

/-- R261, $2C `BIT $hhll`. -/
def execBitAbs (w : Addr) (s : State) : Result :=
  readInstr 4 (.mem (.abs w)) bitTest s

/-- R262, $E6 `INC $nn`. -/
def execIncZp (z : Byte) (s : State) : Result :=
  rmwInstr 5 (.zp z) incByte afterStep s

/-- R262, $EE `INC $hhll`. -/
def execIncAbs (w : Addr) (s : State) : Result :=
  rmwInstr 6 (.abs w) incByte afterStep s

/-- R262, $F6 `INC $nn,X`. -/
def execIncZpx (z : Byte) (s : State) : Result :=
  rmwInstr 6 (.zpx z) incByte afterStep s

/-- R262, $FE `INC $hhll,X`. -/
def execIncAbsx (w : Addr) (s : State) : Result :=
  rmwInstr 7 (.absx w) incByte afterStep s

/-- R263, $C6 `DEC $nn`. -/
def execDecZp (z : Byte) (s : State) : Result :=
  rmwInstr 5 (.zp z) decByte afterStep s

/-- R263, $CE `DEC $hhll`. -/
def execDecAbs (w : Addr) (s : State) : Result :=
  rmwInstr 6 (.abs w) decByte afterStep s

/-- R263, $D6 `DEC $nn,X`. -/
def execDecZpx (z : Byte) (s : State) : Result :=
  rmwInstr 6 (.zpx z) decByte afterStep s

/-- R263, $DE `DEC $hhll,X`. -/
def execDecAbsx (w : Addr) (s : State) : Result :=
  rmwInstr 7 (.absx w) decByte afterStep s

/-- R264, $E8 `INX`. -/
def execInx (s : State) : Result :=
  impliedInstr 2 (fun t => loadX (t.x + 1) t) s

/-- R265, $C8 `INY`. -/
def execIny (s : State) : Result :=
  impliedInstr 2 (fun t => loadY (t.y + 1) t) s

/-- R266, $CA `DEX`. -/
def execDex (s : State) : Result :=
  impliedInstr 2 (fun t => loadX (t.x - 1) t) s

/-- R267, $88 `DEY`. -/
def execDey (s : State) : Result :=
  impliedInstr 2 (fun t => loadY (t.y - 1) t) s

end Sys2Proof.Machine
end

