-- ==== Sys2Proof/Machine/Control.lean ====
section
/-!
DEFINITION. Control transfer, flag instructions and NOP $EA (45_control_flags.md R320 to R342). BRK takes the shared entry of Ops.lean
and RTI the shared return. Nothing here faults.
-/

namespace Sys2Proof.Machine

/-- R321, $10 `BPL label`. -/
def execBpl (o : Byte) (s : State) : Result :=
  branchInstr (!s.flags.n) o s

/-- R322, $30 `BMI label`. -/
def execBmi (o : Byte) (s : State) : Result :=
  branchInstr (s.flags.n) o s

/-- R323, $50 `BVC label`. -/
def execBvc (o : Byte) (s : State) : Result :=
  branchInstr (!s.flags.v) o s

/-- R324, $70 `BVS label`. -/
def execBvs (o : Byte) (s : State) : Result :=
  branchInstr (s.flags.v) o s

/-- R325, $90 `BCC label`. -/
def execBcc (o : Byte) (s : State) : Result :=
  branchInstr (!s.flags.c) o s

/-- R326, $B0 `BCS label`. -/
def execBcs (o : Byte) (s : State) : Result :=
  branchInstr (s.flags.c) o s

/-- R327, $D0 `BNE label`. -/
def execBne (o : Byte) (s : State) : Result :=
  branchInstr (!s.flags.z) o s

/-- R328, $F0 `BEQ label`. -/
def execBeq (o : Byte) (s : State) : Result :=
  branchInstr (s.flags.z) o s

/-- R330: the address of the high byte of an indirect jump's target, in the page of the low byte. -/
def pointerHighAddr (ptr : Addr) : Addr := (ptr &&& 0xFF00) ||| ((ptr + 1) &&& 0x00FF)

/-- R330: the target of an indirect jump, read through the bus. -/
def jumpTarget (ptr : Addr) (s : State) : Addr × State :=
  let (l, s1) := read8 ptr s
  let (h, s2) := read8 (pointerHighAddr ptr) s1
  (wordOf l h, s2)

/-- R329, $4C `JMP $hhll`. -/
def execJmpAbs (w : Addr) (s : State) : Result :=
  .next (((s.advance 3).setPC w).tick 3)

/-- R330, $6C `JMP ($hhll)`. -/
def execJmpInd (w : Addr) (s : State) : Result :=
  let (target, s1) := jumpTarget w (s.advance 3)
  .next ((s1.setPC target).tick 5)

/-- R331, $20 `JSR $hhll`. -/
def execJsrAbs (w : Addr) (s : State) : Result :=
  let s1 := s.advance 3
  .next (((push16 (s1.pc - 1) s1).setPC w).tick 6)

/-- R332: `PC <- (Pull16() + 1) mod 2^16`. -/
def returnToCaller (s : State) : State :=
  let (ret, s1) := pull16 s
  s1.setPC (ret + 1)

/-- R332, $60 `RTS`. -/
def execRts (s : State) : Result :=
  impliedInstr 6 returnToCaller s

/-- R333, $00 `BRK`. -/
def execBrk (s : State) : Result :=
  impliedInstr 7 (fun t => enter (t.pc + 1) t.breakImage irqVector t) s

/-- R334, $40 `RTI`. -/
def execRti (s : State) : Result :=
  impliedInstr 6 leave s

/-- R335, $18 `CLC`. -/
def execClc (s : State) : Result :=
  impliedInstr 2 (setC false) s

/-- R336, $38 `SEC`. -/
def execSec (s : State) : Result :=
  impliedInstr 2 (setC true) s

/-- R337, $58 `CLI`. -/
def execCli (s : State) : Result :=
  impliedInstr 2 (setI false) s

/-- R338, $78 `SEI`. -/
def execSei (s : State) : Result :=
  impliedInstr 2 (setI true) s

/-- R339, $D8 `CLD`. -/
def execCld (s : State) : Result :=
  impliedInstr 2 (setD false) s

/-- R340, $F8 `SED`. -/
def execSed (s : State) : Result :=
  impliedInstr 2 (setD true) s

/-- R341, $B8 `CLV`. -/
def execClv (s : State) : Result :=
  impliedInstr 2 (setV false) s

/-- R342, R391: no effect but the advance of PC. -/
def nothing (s : State) : State := s

/-- R342, $EA `NOP`. -/
def execNopImplEA (s : State) : Result :=
  impliedInstr 2 nothing s

end Sys2Proof.Machine
end

