-- ==== Sys2Proof/Machine/Shift.lean ====
section
/-!
DEFINITION. Shifts and rotates by one, of A or of a byte of memory (44_shift_rotate.md R300 to R304). Nothing here faults.
-/

namespace Sys2Proof.Machine

/-- R301: `ASL8(m)`. -/
def aslOf (m : Byte) (_ : State) : Byte × Bool := asl8 m

/-- R302: `LSR8(m)`. -/
def lsrOf (m : Byte) (_ : State) : Byte × Bool := lsr8 m

/-- R303: `ROL8(m, C)`, with C as it is before the instruction. -/
def rolOf (m : Byte) (s : State) : Byte × Bool := rol8 m s.flags.c

/-- R304: `ROR8(m, C)`, with C as it is before the instruction. -/
def rorOf (m : Byte) (s : State) : Byte × Bool := ror8 m s.flags.c

/-- R301, $06 `ASL $nn`. -/
def execAslZp (z : Byte) (s : State) : Result :=
  rmwInstr 5 (.zp z) aslOf setShift s

/-- R301, $0A `ASL A`. -/
def execAslAcc (s : State) : Result :=
  accInstr aslOf s

/-- R301, $0E `ASL $hhll`. -/
def execAslAbs (w : Addr) (s : State) : Result :=
  rmwInstr 6 (.abs w) aslOf setShift s

/-- R301, $16 `ASL $nn,X`. -/
def execAslZpx (z : Byte) (s : State) : Result :=
  rmwInstr 6 (.zpx z) aslOf setShift s

/-- R301, $1E `ASL $hhll,X`. -/
def execAslAbsx (w : Addr) (s : State) : Result :=
  rmwInstr 7 (.absx w) aslOf setShift s

/-- R302, $46 `LSR $nn`. -/
def execLsrZp (z : Byte) (s : State) : Result :=
  rmwInstr 5 (.zp z) lsrOf setShift s

/-- R302, $4A `LSR A`. -/
def execLsrAcc (s : State) : Result :=
  accInstr lsrOf s

/-- R302, $4E `LSR $hhll`. -/
def execLsrAbs (w : Addr) (s : State) : Result :=
  rmwInstr 6 (.abs w) lsrOf setShift s

/-- R302, $56 `LSR $nn,X`. -/
def execLsrZpx (z : Byte) (s : State) : Result :=
  rmwInstr 6 (.zpx z) lsrOf setShift s

/-- R302, $5E `LSR $hhll,X`. -/
def execLsrAbsx (w : Addr) (s : State) : Result :=
  rmwInstr 7 (.absx w) lsrOf setShift s

/-- R303, $26 `ROL $nn`. -/
def execRolZp (z : Byte) (s : State) : Result :=
  rmwInstr 5 (.zp z) rolOf setShift s

/-- R303, $2A `ROL A`. -/
def execRolAcc (s : State) : Result :=
  accInstr rolOf s

/-- R303, $2E `ROL $hhll`. -/
def execRolAbs (w : Addr) (s : State) : Result :=
  rmwInstr 6 (.abs w) rolOf setShift s

/-- R303, $36 `ROL $nn,X`. -/
def execRolZpx (z : Byte) (s : State) : Result :=
  rmwInstr 6 (.zpx z) rolOf setShift s

/-- R303, $3E `ROL $hhll,X`. -/
def execRolAbsx (w : Addr) (s : State) : Result :=
  rmwInstr 7 (.absx w) rolOf setShift s

/-- R304, $66 `ROR $nn`. -/
def execRorZp (z : Byte) (s : State) : Result :=
  rmwInstr 5 (.zp z) rorOf setShift s

/-- R304, $6A `ROR A`. -/
def execRorAcc (s : State) : Result :=
  accInstr rorOf s

/-- R304, $6E `ROR $hhll`. -/
def execRorAbs (w : Addr) (s : State) : Result :=
  rmwInstr 6 (.abs w) rorOf setShift s

/-- R304, $76 `ROR $nn,X`. -/
def execRorZpx (z : Byte) (s : State) : Result :=
  rmwInstr 6 (.zpx z) rorOf setShift s

/-- R304, $7E `ROR $hhll,X`. -/
def execRorAbsx (w : Addr) (s : State) : Result :=
  rmwInstr 7 (.absx w) rorOf setShift s

end Sys2Proof.Machine
end

