-- ==== Sys2Proof/Machine/Stack.lean ====
section
/-!
DEFINITION. Stack instructions (42_stack.md R230 to R233). The stack wraps in page $01; nothing here faults.
-/

namespace Sys2Proof.Machine

/-- R230, $48 `PHA`. -/
def execPha (s : State) : Result :=
  impliedInstr 3 (fun t => push8 t.a t) s

/-- R231, $08 `PHP`. -/
def execPhp (s : State) : Result :=
  impliedInstr 3 (fun t => push8 t.breakImage t) s

/-- R232: `A <- Pull8(); SetNZ(A)`. -/
def pullA (s : State) : State :=
  let (v, s1) := pull8 s
  loadA v s1

/-- R233: `v <- Pull8(); P <- (v AND $CF) OR $20`. -/
def pullP (s : State) : State :=
  let (v, s1) := pull8 s
  s1.pullFlags v

/-- R232, $68 `PLA`. -/
def execPla (s : State) : Result :=
  impliedInstr 4 pullA s

/-- R233, $28 `PLP`. -/
def execPlp (s : State) : Result :=
  impliedInstr 4 pullP s

end Sys2Proof.Machine
end

