-- ==== Sys2Proof/Machine/Undocumented.lean ====
section
/-!
DEFINITION. Undocumented opcodes and JAM (46_undocumented.md R370 to R400). The unstable ones take the parameters XAA_MAGIC,
LXA_MAGIC and SH_GLITCH (R128). JAM is the one fault of the block, and its effect is a next state (R480, log entry 10).
-/

namespace Sys2Proof.Machine

/-- R371: after the write: `C <- c; A <- A OR v; SetNZ(A)`. -/
def afterSlo (v : Byte) (c : Bool) (s : State) : State := oraA v (setC c s)

/-- R372: after the write: `C <- c; A <- A AND v; SetNZ(A)`. -/
def afterRla (v : Byte) (c : Bool) (s : State) : State := andA v (setC c s)

/-- R373: after the write: `C <- c; A <- A XOR v; SetNZ(A)`. -/
def afterSre (v : Byte) (c : Bool) (s : State) : State := eorA v (setC c s)

/-- R374: after the write: `(A, C, V) <- AddC(A, v, c); SetNZ(A)`, the rotate's carry going into the add. -/
def afterRra (v : Byte) (c : Bool) (s : State) : State := addToA v c s

/-- R377: after the write: `Compare(A, v)`. -/
def afterDcp (v : Byte) (_ : Bool) (s : State) : State := compare s.a v s

/-- R378: after the write: `(A, C, V) <- AddC(A, v XOR $FF, C); SetNZ(A)`. -/
def afterIsb (v : Byte) (_ : Bool) (s : State) : State := sbc v s

/-- R371, $03 `SLO ($nn,X)`. -/
def execSloIzx (z : Byte) (s : State) : Result :=
  rmwInstr 8 (.izx z) aslOf afterSlo s

/-- R371, $07 `SLO $nn`. -/
def execSloZp (z : Byte) (s : State) : Result :=
  rmwInstr 5 (.zp z) aslOf afterSlo s

/-- R371, $0F `SLO $hhll`. -/
def execSloAbs (w : Addr) (s : State) : Result :=
  rmwInstr 6 (.abs w) aslOf afterSlo s

/-- R371, $13 `SLO ($nn),Y`. -/
def execSloIzy (z : Byte) (s : State) : Result :=
  rmwInstr 8 (.izy z) aslOf afterSlo s

/-- R371, $17 `SLO $nn,X`. -/
def execSloZpx (z : Byte) (s : State) : Result :=
  rmwInstr 6 (.zpx z) aslOf afterSlo s

/-- R371, $1B `SLO $hhll,Y`. -/
def execSloAbsy (w : Addr) (s : State) : Result :=
  rmwInstr 7 (.absy w) aslOf afterSlo s

/-- R371, $1F `SLO $hhll,X`. -/
def execSloAbsx (w : Addr) (s : State) : Result :=
  rmwInstr 7 (.absx w) aslOf afterSlo s

/-- R372, $23 `RLA ($nn,X)`. -/
def execRlaIzx (z : Byte) (s : State) : Result :=
  rmwInstr 8 (.izx z) rolOf afterRla s

/-- R372, $27 `RLA $nn`. -/
def execRlaZp (z : Byte) (s : State) : Result :=
  rmwInstr 5 (.zp z) rolOf afterRla s

/-- R372, $2F `RLA $hhll`. -/
def execRlaAbs (w : Addr) (s : State) : Result :=
  rmwInstr 6 (.abs w) rolOf afterRla s

/-- R372, $33 `RLA ($nn),Y`. -/
def execRlaIzy (z : Byte) (s : State) : Result :=
  rmwInstr 8 (.izy z) rolOf afterRla s

/-- R372, $37 `RLA $nn,X`. -/
def execRlaZpx (z : Byte) (s : State) : Result :=
  rmwInstr 6 (.zpx z) rolOf afterRla s

/-- R372, $3B `RLA $hhll,Y`. -/
def execRlaAbsy (w : Addr) (s : State) : Result :=
  rmwInstr 7 (.absy w) rolOf afterRla s

/-- R372, $3F `RLA $hhll,X`. -/
def execRlaAbsx (w : Addr) (s : State) : Result :=
  rmwInstr 7 (.absx w) rolOf afterRla s

/-- R373, $43 `SRE ($nn,X)`. -/
def execSreIzx (z : Byte) (s : State) : Result :=
  rmwInstr 8 (.izx z) lsrOf afterSre s

/-- R373, $47 `SRE $nn`. -/
def execSreZp (z : Byte) (s : State) : Result :=
  rmwInstr 5 (.zp z) lsrOf afterSre s

/-- R373, $4F `SRE $hhll`. -/
def execSreAbs (w : Addr) (s : State) : Result :=
  rmwInstr 6 (.abs w) lsrOf afterSre s

/-- R373, $53 `SRE ($nn),Y`. -/
def execSreIzy (z : Byte) (s : State) : Result :=
  rmwInstr 8 (.izy z) lsrOf afterSre s

/-- R373, $57 `SRE $nn,X`. -/
def execSreZpx (z : Byte) (s : State) : Result :=
  rmwInstr 6 (.zpx z) lsrOf afterSre s

/-- R373, $5B `SRE $hhll,Y`. -/
def execSreAbsy (w : Addr) (s : State) : Result :=
  rmwInstr 7 (.absy w) lsrOf afterSre s

/-- R373, $5F `SRE $hhll,X`. -/
def execSreAbsx (w : Addr) (s : State) : Result :=
  rmwInstr 7 (.absx w) lsrOf afterSre s

/-- R374, $63 `RRA ($nn,X)`. -/
def execRraIzx (z : Byte) (s : State) : Result :=
  rmwInstr 8 (.izx z) rorOf afterRra s

/-- R374, $67 `RRA $nn`. -/
def execRraZp (z : Byte) (s : State) : Result :=
  rmwInstr 5 (.zp z) rorOf afterRra s

/-- R374, $6F `RRA $hhll`. -/
def execRraAbs (w : Addr) (s : State) : Result :=
  rmwInstr 6 (.abs w) rorOf afterRra s

/-- R374, $73 `RRA ($nn),Y`. -/
def execRraIzy (z : Byte) (s : State) : Result :=
  rmwInstr 8 (.izy z) rorOf afterRra s

/-- R374, $77 `RRA $nn,X`. -/
def execRraZpx (z : Byte) (s : State) : Result :=
  rmwInstr 6 (.zpx z) rorOf afterRra s

/-- R374, $7B `RRA $hhll,Y`. -/
def execRraAbsy (w : Addr) (s : State) : Result :=
  rmwInstr 7 (.absy w) rorOf afterRra s

/-- R374, $7F `RRA $hhll,X`. -/
def execRraAbsx (w : Addr) (s : State) : Result :=
  rmwInstr 7 (.absx w) rorOf afterRra s

/-- R377, $C3 `DCP ($nn,X)`. -/
def execDcpIzx (z : Byte) (s : State) : Result :=
  rmwInstr 8 (.izx z) decByte afterDcp s

/-- R377, $C7 `DCP $nn`. -/
def execDcpZp (z : Byte) (s : State) : Result :=
  rmwInstr 5 (.zp z) decByte afterDcp s

/-- R377, $CF `DCP $hhll`. -/
def execDcpAbs (w : Addr) (s : State) : Result :=
  rmwInstr 6 (.abs w) decByte afterDcp s

/-- R377, $D3 `DCP ($nn),Y`. -/
def execDcpIzy (z : Byte) (s : State) : Result :=
  rmwInstr 8 (.izy z) decByte afterDcp s

/-- R377, $D7 `DCP $nn,X`. -/
def execDcpZpx (z : Byte) (s : State) : Result :=
  rmwInstr 6 (.zpx z) decByte afterDcp s

/-- R377, $DB `DCP $hhll,Y`. -/
def execDcpAbsy (w : Addr) (s : State) : Result :=
  rmwInstr 7 (.absy w) decByte afterDcp s

/-- R377, $DF `DCP $hhll,X`. -/
def execDcpAbsx (w : Addr) (s : State) : Result :=
  rmwInstr 7 (.absx w) decByte afterDcp s

/-- R378, $E3 `ISB ($nn,X)`. -/
def execIsbIzx (z : Byte) (s : State) : Result :=
  rmwInstr 8 (.izx z) incByte afterIsb s

/-- R378, $E7 `ISB $nn`. -/
def execIsbZp (z : Byte) (s : State) : Result :=
  rmwInstr 5 (.zp z) incByte afterIsb s

/-- R378, $EF `ISB $hhll`. -/
def execIsbAbs (w : Addr) (s : State) : Result :=
  rmwInstr 6 (.abs w) incByte afterIsb s

/-- R378, $F3 `ISB ($nn),Y`. -/
def execIsbIzy (z : Byte) (s : State) : Result :=
  rmwInstr 8 (.izy z) incByte afterIsb s

/-- R378, $F7 `ISB $nn,X`. -/
def execIsbZpx (z : Byte) (s : State) : Result :=
  rmwInstr 6 (.zpx z) incByte afterIsb s

/-- R378, $FB `ISB $hhll,Y`. -/
def execIsbAbsy (w : Addr) (s : State) : Result :=
  rmwInstr 7 (.absy w) incByte afterIsb s

/-- R378, $FF `ISB $hhll,X`. -/
def execIsbAbsx (w : Addr) (s : State) : Result :=
  rmwInstr 7 (.absx w) incByte afterIsb s

/-- R375, R386, R389: `A AND X`. -/
def aAndX (s : State) : Byte := s.a &&& s.x

/-- R375, $83 `SAX ($nn,X)`. -/
def execSaxIzx (z : Byte) (s : State) : Result :=
  storeInstr 6 (.izx z) aAndX s

/-- R375, $87 `SAX $nn`. -/
def execSaxZp (z : Byte) (s : State) : Result :=
  storeInstr 3 (.zp z) aAndX s

/-- R375, $8F `SAX $hhll`. -/
def execSaxAbs (w : Addr) (s : State) : Result :=
  storeInstr 4 (.abs w) aAndX s

/-- R375, $97 `SAX $nn,Y`. -/
def execSaxZpy (z : Byte) (s : State) : Result :=
  storeInstr 4 (.zpy z) aAndX s

/-- R376: `A <- M; X <- M; SetNZ(M)`. -/
def loadAX (m : Byte) (s : State) : State := setNZ m ((s.setA m).setX m)

/-- R383: `v <- (A OR LXA_MAGIC) AND M; A <- v; X <- v; SetNZ(v)`. -/
def loadAXMagic (m : Byte) (s : State) : State := loadAX ((s.a ||| s.params.lxaMagic) &&& m) s

/-- R376, $A3 `LAX ($nn,X)`. -/
def execLaxIzx (z : Byte) (s : State) : Result :=
  readInstr 6 (.mem (.izx z)) loadAX s

/-- R376, $A7 `LAX $nn`. -/
def execLaxZp (z : Byte) (s : State) : Result :=
  readInstr 3 (.mem (.zp z)) loadAX s

/-- R383, $AB `LAX #$nn`. -/
def execLaxImm (v : Byte) (s : State) : Result :=
  readInstr 2 (.imm v) loadAXMagic s

/-- R376, $AF `LAX $hhll`. -/
def execLaxAbs (w : Addr) (s : State) : Result :=
  readInstr 4 (.mem (.abs w)) loadAX s

/-- R376, $B3 `LAX ($nn),Y`. -/
def execLaxIzy (z : Byte) (s : State) : Result :=
  readInstr 5 (.mem (.izy z)) loadAX s

/-- R376, $B7 `LAX $nn,Y`. -/
def execLaxZpy (z : Byte) (s : State) : Result :=
  readInstr 4 (.mem (.zpy z)) loadAX s

/-- R376, $BF `LAX $hhll,Y`. -/
def execLaxAbsy (w : Addr) (s : State) : Result :=
  readInstr 4 (.mem (.absy w)) loadAX s

/-- R379: `A <- A AND M; SetNZ(A); C <- A[7]`. -/
def anc (m : Byte) (s : State) : State := setC ((s.a &&& m).getLsbD 7) (andA m s)

/-- R380: `t <- A AND M; (A, C) <- LSR8(t); SetNZ(A)`. -/
def alr (m : Byte) (s : State) : State :=
  let (v, c) := lsr8 (s.a &&& m)
  setShift v c (s.setA v)

/-- R381: `r <- ((A AND M) >> 1) OR (C << 7); A <- r; SetNZ(r); C <- r[6]; V <- r[6] XOR r[5]`. -/
def arr (m : Byte) (s : State) : State :=
  let r := (ror8 (s.a &&& m) s.flags.c).1
  setV (r.getLsbD 6 ^^ r.getLsbD 5) (setC (r.getLsbD 6) (loadA r s))

/-- R382: `A <- (A OR XAA_MAGIC) AND X AND M; SetNZ(A)`. -/
def xaa (m : Byte) (s : State) : State := loadA ((s.a ||| s.params.xaaMagic) &&& s.x &&& m) s

/-- R384: `t <- A AND X; C <- (t >= M); X <- (t - M) mod 256; SetNZ(X)`. -/
def axs (m : Byte) (s : State) : State :=
  loadX (aAndX s - m) (setC (decide (m ≤ aAndX s)) s)

/-- R379, $0B `ANC #$nn`. -/
def execAncImm0B (v : Byte) (s : State) : Result :=
  readInstr 2 (.imm v) anc s

/-- R379, $2B `ANC #$nn`. -/
def execAncImm2B (v : Byte) (s : State) : Result :=
  readInstr 2 (.imm v) anc s

/-- R380, $4B `ALR #$nn`. -/
def execAlrImm (v : Byte) (s : State) : Result :=
  readInstr 2 (.imm v) alr s

/-- R381, $6B `ARR #$nn`. -/
def execArrImm (v : Byte) (s : State) : Result :=
  readInstr 2 (.imm v) arr s

/-- R382, $8B `XAA #$nn`. -/
def execXaaImm (v : Byte) (s : State) : Result :=
  readInstr 2 (.imm v) xaa s

/-- R384, $CB `AXS #$nn`. -/
def execAxsImm (v : Byte) (s : State) : Result :=
  readInstr 2 (.imm v) axs s

/-- R390, $EB `SBC #$nn`. -/
def execSbcImmEB (v : Byte) (s : State) : Result :=
  readInstr 2 (.imm v) sbc s

/-- R385: `v <- M AND SP; A <- v; X <- v; SP <- v; SetNZ(v)`. -/
def las (m : Byte) (s : State) : State := loadAX (m &&& s.sp) (s.setSP (m &&& s.sp))

/-- R385, $BB `LAS $hhll,Y`. -/
def execLasAbsy (w : Addr) (s : State) : Result :=
  readInstr 4 (.mem (.absy w)) las s

/-- R386, $9B `TAS $hhll,Y`. -/
def execTasAbsy (w : Addr) (s : State) : Result :=
  shInstr 5 (.absy w) aAndX (fun t => t.setSP (aAndX t)) s

/-- R387, $9E `SHX $hhll,Y`. -/
def execShxAbsy (w : Addr) (s : State) : Result :=
  shInstr 5 (.absy w) State.x nothing s

/-- R388, $9C `SHY $hhll,X`. -/
def execShyAbsx (w : Addr) (s : State) : Result :=
  shInstr 5 (.absx w) State.y nothing s

/-- R389, $93 `AHX ($nn),Y`. -/
def execAhxIzy (z : Byte) (s : State) : Result :=
  shInstr 6 (.izy z) aAndX nothing s

/-- R389, $9F `AHX $hhll,Y`. -/
def execAhxAbsy (w : Addr) (s : State) : Result :=
  shInstr 5 (.absy w) aAndX nothing s

/-- R392 to R394: the operand byte is discarded. -/
def discard (_ : Byte) (s : State) : State := s

/-- R393, $04 `NOP $nn`. -/
def execNopZp04 (z : Byte) (s : State) : Result :=
  readInstr 3 (.mem (.zp z)) discard s

/-- R394, $0C `NOP $hhll`. -/
def execNopAbs (w : Addr) (s : State) : Result :=
  readInstr 4 (.mem (.abs w)) discard s

/-- R393, $14 `NOP $nn,X`. -/
def execNopZpx14 (z : Byte) (s : State) : Result :=
  readInstr 4 (.mem (.zpx z)) discard s

/-- R391, $1A `NOP`. -/
def execNopImpl1A (s : State) : Result :=
  impliedInstr 2 nothing s

/-- R394, $1C `NOP $hhll,X`. -/
def execNopAbsx1C (w : Addr) (s : State) : Result :=
  readInstr 4 (.mem (.absx w)) discard s

/-- R393, $34 `NOP $nn,X`. -/
def execNopZpx34 (z : Byte) (s : State) : Result :=
  readInstr 4 (.mem (.zpx z)) discard s

/-- R391, $3A `NOP`. -/
def execNopImpl3A (s : State) : Result :=
  impliedInstr 2 nothing s

/-- R394, $3C `NOP $hhll,X`. -/
def execNopAbsx3C (w : Addr) (s : State) : Result :=
  readInstr 4 (.mem (.absx w)) discard s

/-- R393, $44 `NOP $nn`. -/
def execNopZp44 (z : Byte) (s : State) : Result :=
  readInstr 3 (.mem (.zp z)) discard s

/-- R393, $54 `NOP $nn,X`. -/
def execNopZpx54 (z : Byte) (s : State) : Result :=
  readInstr 4 (.mem (.zpx z)) discard s

/-- R391, $5A `NOP`. -/
def execNopImpl5A (s : State) : Result :=
  impliedInstr 2 nothing s

/-- R394, $5C `NOP $hhll,X`. -/
def execNopAbsx5C (w : Addr) (s : State) : Result :=
  readInstr 4 (.mem (.absx w)) discard s

/-- R393, $64 `NOP $nn`. -/
def execNopZp64 (z : Byte) (s : State) : Result :=
  readInstr 3 (.mem (.zp z)) discard s

/-- R393, $74 `NOP $nn,X`. -/
def execNopZpx74 (z : Byte) (s : State) : Result :=
  readInstr 4 (.mem (.zpx z)) discard s

/-- R391, $7A `NOP`. -/
def execNopImpl7A (s : State) : Result :=
  impliedInstr 2 nothing s

/-- R394, $7C `NOP $hhll,X`. -/
def execNopAbsx7C (w : Addr) (s : State) : Result :=
  readInstr 4 (.mem (.absx w)) discard s

/-- R392, $80 `NOP #$nn`. -/
def execNopImm80 (v : Byte) (s : State) : Result :=
  readInstr 2 (.imm v) discard s

/-- R392, $82 `NOP #$nn`. -/
def execNopImm82 (v : Byte) (s : State) : Result :=
  readInstr 2 (.imm v) discard s

/-- R392, $89 `NOP #$nn`. -/
def execNopImm89 (v : Byte) (s : State) : Result :=
  readInstr 2 (.imm v) discard s

/-- R392, $C2 `NOP #$nn`. -/
def execNopImmC2 (v : Byte) (s : State) : Result :=
  readInstr 2 (.imm v) discard s

/-- R393, $D4 `NOP $nn,X`. -/
def execNopZpxD4 (z : Byte) (s : State) : Result :=
  readInstr 4 (.mem (.zpx z)) discard s

/-- R391, $DA `NOP`. -/
def execNopImplDA (s : State) : Result :=
  impliedInstr 2 nothing s

/-- R394, $DC `NOP $hhll,X`. -/
def execNopAbsxDC (w : Addr) (s : State) : Result :=
  readInstr 4 (.mem (.absx w)) discard s

/-- R392, $E2 `NOP #$nn`. -/
def execNopImmE2 (v : Byte) (s : State) : Result :=
  readInstr 2 (.imm v) discard s

/-- R393, $F4 `NOP $nn,X`. -/
def execNopZpxF4 (z : Byte) (s : State) : Result :=
  readInstr 4 (.mem (.zpx z)) discard s

/-- R391, $FA `NOP`. -/
def execNopImplFA (s : State) : Result :=
  impliedInstr 2 nothing s

/-- R394, $FC `NOP $hhll,X`. -/
def execNopAbsxFC (w : Addr) (s : State) : Result :=
  readInstr 4 (.mem (.absx w)) discard s

/-- R400, R480: `jammed <- true; cycles <- cycles + JAM_CYCLES`; PC stays at the JAM opcode. -/
def jam (s : State) : State := (s.setJammed true).tick s.params.jamCycles

/-- R400, $02 `JAM`. -/
def execJam02 (s : State) : Result :=
  .next (jam s)

/-- R400, $12 `JAM`. -/
def execJam12 (s : State) : Result :=
  .next (jam s)

/-- R400, $22 `JAM`. -/
def execJam22 (s : State) : Result :=
  .next (jam s)

/-- R400, $32 `JAM`. -/
def execJam32 (s : State) : Result :=
  .next (jam s)

/-- R400, $42 `JAM`. -/
def execJam42 (s : State) : Result :=
  .next (jam s)

/-- R400, $52 `JAM`. -/
def execJam52 (s : State) : Result :=
  .next (jam s)

/-- R400, $62 `JAM`. -/
def execJam62 (s : State) : Result :=
  .next (jam s)

/-- R400, $72 `JAM`. -/
def execJam72 (s : State) : Result :=
  .next (jam s)

/-- R400, $92 `JAM`. -/
def execJam92 (s : State) : Result :=
  .next (jam s)

/-- R400, $B2 `JAM`. -/
def execJamB2 (s : State) : Result :=
  .next (jam s)

/-- R400, $D2 `JAM`. -/
def execJamD2 (s : State) : Result :=
  .next (jam s)

/-- R400, $F2 `JAM`. -/
def execJamF2 (s : State) : Result :=
  .next (jam s)

end Sys2Proof.Machine
end

