-- ==== Sys2Proof/Machine/Dispatch.lean ====
section
/-!
DEFINITION. The dispatch: one arm per constructor of Instr, each one direct call of the meaning of that row (R151).
-/

namespace Sys2Proof.Machine

/-- R150 `execute row.rule`, with the advance of PC and the cycles of the instruction. -/
def exec (i : Instr) (s : State) : Host.Outcome State Fault Refusal :=
  match i with
  | .oraIzx z => Sys2Proof.Machine.execOraIzx z s
  | .sloIzx z => Sys2Proof.Machine.execSloIzx z s
  | .nopZp04 z => Sys2Proof.Machine.execNopZp04 z s
  | .oraZp z => Sys2Proof.Machine.execOraZp z s
  | .aslZp z => Sys2Proof.Machine.execAslZp z s
  | .sloZp z => Sys2Proof.Machine.execSloZp z s
  | .oraImm v => Sys2Proof.Machine.execOraImm v s
  | .ancImm0B v => Sys2Proof.Machine.execAncImm0B v s
  | .nopAbs w => Sys2Proof.Machine.execNopAbs w s
  | .oraAbs w => Sys2Proof.Machine.execOraAbs w s
  | .aslAbs w => Sys2Proof.Machine.execAslAbs w s
  | .sloAbs w => Sys2Proof.Machine.execSloAbs w s
  | .bpl o => Sys2Proof.Machine.execBpl o s
  | .oraIzy z => Sys2Proof.Machine.execOraIzy z s
  | .sloIzy z => Sys2Proof.Machine.execSloIzy z s
  | .nopZpx14 z => Sys2Proof.Machine.execNopZpx14 z s
  | .oraZpx z => Sys2Proof.Machine.execOraZpx z s
  | .aslZpx z => Sys2Proof.Machine.execAslZpx z s
  | .sloZpx z => Sys2Proof.Machine.execSloZpx z s
  | .oraAbsy w => Sys2Proof.Machine.execOraAbsy w s
  | .sloAbsy w => Sys2Proof.Machine.execSloAbsy w s
  | .nopAbsx1C w => Sys2Proof.Machine.execNopAbsx1C w s
  | .oraAbsx w => Sys2Proof.Machine.execOraAbsx w s
  | .aslAbsx w => Sys2Proof.Machine.execAslAbsx w s
  | .sloAbsx w => Sys2Proof.Machine.execSloAbsx w s
  | .jsrAbs w => Sys2Proof.Machine.execJsrAbs w s
  | .andIzx z => Sys2Proof.Machine.execAndIzx z s
  | .rlaIzx z => Sys2Proof.Machine.execRlaIzx z s
  | .bitZp z => Sys2Proof.Machine.execBitZp z s
  | .andZp z => Sys2Proof.Machine.execAndZp z s
  | .rolZp z => Sys2Proof.Machine.execRolZp z s
  | .rlaZp z => Sys2Proof.Machine.execRlaZp z s
  | .andImm v => Sys2Proof.Machine.execAndImm v s
  | .ancImm2B v => Sys2Proof.Machine.execAncImm2B v s
  | .bitAbs w => Sys2Proof.Machine.execBitAbs w s
  | .andAbs w => Sys2Proof.Machine.execAndAbs w s
  | .rolAbs w => Sys2Proof.Machine.execRolAbs w s
  | .rlaAbs w => Sys2Proof.Machine.execRlaAbs w s
  | .bmi o => Sys2Proof.Machine.execBmi o s
  | .andIzy z => Sys2Proof.Machine.execAndIzy z s
  | .rlaIzy z => Sys2Proof.Machine.execRlaIzy z s
  | .nopZpx34 z => Sys2Proof.Machine.execNopZpx34 z s
  | .andZpx z => Sys2Proof.Machine.execAndZpx z s
  | .rolZpx z => Sys2Proof.Machine.execRolZpx z s
  | .rlaZpx z => Sys2Proof.Machine.execRlaZpx z s
  | .andAbsy w => Sys2Proof.Machine.execAndAbsy w s
  | .rlaAbsy w => Sys2Proof.Machine.execRlaAbsy w s
  | .nopAbsx3C w => Sys2Proof.Machine.execNopAbsx3C w s
  | .andAbsx w => Sys2Proof.Machine.execAndAbsx w s
  | .rolAbsx w => Sys2Proof.Machine.execRolAbsx w s
  | .rlaAbsx w => Sys2Proof.Machine.execRlaAbsx w s
  | .eorIzx z => Sys2Proof.Machine.execEorIzx z s
  | .sreIzx z => Sys2Proof.Machine.execSreIzx z s
  | .nopZp44 z => Sys2Proof.Machine.execNopZp44 z s
  | .eorZp z => Sys2Proof.Machine.execEorZp z s
  | .lsrZp z => Sys2Proof.Machine.execLsrZp z s
  | .sreZp z => Sys2Proof.Machine.execSreZp z s
  | .eorImm v => Sys2Proof.Machine.execEorImm v s
  | .alrImm v => Sys2Proof.Machine.execAlrImm v s
  | .jmpAbs w => Sys2Proof.Machine.execJmpAbs w s
  | .eorAbs w => Sys2Proof.Machine.execEorAbs w s
  | .lsrAbs w => Sys2Proof.Machine.execLsrAbs w s
  | .sreAbs w => Sys2Proof.Machine.execSreAbs w s
  | .bvc o => Sys2Proof.Machine.execBvc o s
  | .eorIzy z => Sys2Proof.Machine.execEorIzy z s
  | .sreIzy z => Sys2Proof.Machine.execSreIzy z s
  | .nopZpx54 z => Sys2Proof.Machine.execNopZpx54 z s
  | .eorZpx z => Sys2Proof.Machine.execEorZpx z s
  | .lsrZpx z => Sys2Proof.Machine.execLsrZpx z s
  | .sreZpx z => Sys2Proof.Machine.execSreZpx z s
  | .eorAbsy w => Sys2Proof.Machine.execEorAbsy w s
  | .sreAbsy w => Sys2Proof.Machine.execSreAbsy w s
  | .nopAbsx5C w => Sys2Proof.Machine.execNopAbsx5C w s
  | .eorAbsx w => Sys2Proof.Machine.execEorAbsx w s
  | .lsrAbsx w => Sys2Proof.Machine.execLsrAbsx w s
  | .sreAbsx w => Sys2Proof.Machine.execSreAbsx w s
  | .adcIzx z => Sys2Proof.Machine.execAdcIzx z s
  | .rraIzx z => Sys2Proof.Machine.execRraIzx z s
  | .nopZp64 z => Sys2Proof.Machine.execNopZp64 z s
  | .adcZp z => Sys2Proof.Machine.execAdcZp z s
  | .rorZp z => Sys2Proof.Machine.execRorZp z s
  | .rraZp z => Sys2Proof.Machine.execRraZp z s
  | .adcImm v => Sys2Proof.Machine.execAdcImm v s
  | .arrImm v => Sys2Proof.Machine.execArrImm v s
  | .jmpInd w => Sys2Proof.Machine.execJmpInd w s
  | .adcAbs w => Sys2Proof.Machine.execAdcAbs w s
  | .rorAbs w => Sys2Proof.Machine.execRorAbs w s
  | .rraAbs w => Sys2Proof.Machine.execRraAbs w s
  | .bvs o => Sys2Proof.Machine.execBvs o s
  | .adcIzy z => Sys2Proof.Machine.execAdcIzy z s
  | .rraIzy z => Sys2Proof.Machine.execRraIzy z s
  | .nopZpx74 z => Sys2Proof.Machine.execNopZpx74 z s
  | .adcZpx z => Sys2Proof.Machine.execAdcZpx z s
  | .rorZpx z => Sys2Proof.Machine.execRorZpx z s
  | .rraZpx z => Sys2Proof.Machine.execRraZpx z s
  | .adcAbsy w => Sys2Proof.Machine.execAdcAbsy w s
  | .rraAbsy w => Sys2Proof.Machine.execRraAbsy w s
  | .nopAbsx7C w => Sys2Proof.Machine.execNopAbsx7C w s
  | .adcAbsx w => Sys2Proof.Machine.execAdcAbsx w s
  | .rorAbsx w => Sys2Proof.Machine.execRorAbsx w s
  | .rraAbsx w => Sys2Proof.Machine.execRraAbsx w s
  | .nopImm80 v => Sys2Proof.Machine.execNopImm80 v s
  | .staIzx z => Sys2Proof.Machine.execStaIzx z s
  | .nopImm82 v => Sys2Proof.Machine.execNopImm82 v s
  | .saxIzx z => Sys2Proof.Machine.execSaxIzx z s
  | .styZp z => Sys2Proof.Machine.execStyZp z s
  | .staZp z => Sys2Proof.Machine.execStaZp z s
  | .stxZp z => Sys2Proof.Machine.execStxZp z s
  | .saxZp z => Sys2Proof.Machine.execSaxZp z s
  | .nopImm89 v => Sys2Proof.Machine.execNopImm89 v s
  | .xaaImm v => Sys2Proof.Machine.execXaaImm v s
  | .styAbs w => Sys2Proof.Machine.execStyAbs w s
  | .staAbs w => Sys2Proof.Machine.execStaAbs w s
  | .stxAbs w => Sys2Proof.Machine.execStxAbs w s
  | .saxAbs w => Sys2Proof.Machine.execSaxAbs w s
  | .bcc o => Sys2Proof.Machine.execBcc o s
  | .staIzy z => Sys2Proof.Machine.execStaIzy z s
  | .ahxIzy z => Sys2Proof.Machine.execAhxIzy z s
  | .styZpx z => Sys2Proof.Machine.execStyZpx z s
  | .staZpx z => Sys2Proof.Machine.execStaZpx z s
  | .stxZpy z => Sys2Proof.Machine.execStxZpy z s
  | .saxZpy z => Sys2Proof.Machine.execSaxZpy z s
  | .staAbsy w => Sys2Proof.Machine.execStaAbsy w s
  | .tasAbsy w => Sys2Proof.Machine.execTasAbsy w s
  | .shyAbsx w => Sys2Proof.Machine.execShyAbsx w s
  | .staAbsx w => Sys2Proof.Machine.execStaAbsx w s
  | .shxAbsy w => Sys2Proof.Machine.execShxAbsy w s
  | .ahxAbsy w => Sys2Proof.Machine.execAhxAbsy w s
  | .ldyImm v => Sys2Proof.Machine.execLdyImm v s
  | .ldaIzx z => Sys2Proof.Machine.execLdaIzx z s
  | .ldxImm v => Sys2Proof.Machine.execLdxImm v s
  | .laxIzx z => Sys2Proof.Machine.execLaxIzx z s
  | .ldyZp z => Sys2Proof.Machine.execLdyZp z s
  | .ldaZp z => Sys2Proof.Machine.execLdaZp z s
  | .ldxZp z => Sys2Proof.Machine.execLdxZp z s
  | .laxZp z => Sys2Proof.Machine.execLaxZp z s
  | .ldaImm v => Sys2Proof.Machine.execLdaImm v s
  | .laxImm v => Sys2Proof.Machine.execLaxImm v s
  | .ldyAbs w => Sys2Proof.Machine.execLdyAbs w s
  | .ldaAbs w => Sys2Proof.Machine.execLdaAbs w s
  | .ldxAbs w => Sys2Proof.Machine.execLdxAbs w s
  | .laxAbs w => Sys2Proof.Machine.execLaxAbs w s
  | .bcs o => Sys2Proof.Machine.execBcs o s
  | .ldaIzy z => Sys2Proof.Machine.execLdaIzy z s
  | .laxIzy z => Sys2Proof.Machine.execLaxIzy z s
  | .ldyZpx z => Sys2Proof.Machine.execLdyZpx z s
  | .ldaZpx z => Sys2Proof.Machine.execLdaZpx z s
  | .ldxZpy z => Sys2Proof.Machine.execLdxZpy z s
  | .laxZpy z => Sys2Proof.Machine.execLaxZpy z s
  | .ldaAbsy w => Sys2Proof.Machine.execLdaAbsy w s
  | .lasAbsy w => Sys2Proof.Machine.execLasAbsy w s
  | .ldyAbsx w => Sys2Proof.Machine.execLdyAbsx w s
  | .ldaAbsx w => Sys2Proof.Machine.execLdaAbsx w s
  | .ldxAbsy w => Sys2Proof.Machine.execLdxAbsy w s
  | .laxAbsy w => Sys2Proof.Machine.execLaxAbsy w s
  | .cpyImm v => Sys2Proof.Machine.execCpyImm v s
  | .cmpIzx z => Sys2Proof.Machine.execCmpIzx z s
  | .nopImmC2 v => Sys2Proof.Machine.execNopImmC2 v s
  | .dcpIzx z => Sys2Proof.Machine.execDcpIzx z s
  | .cpyZp z => Sys2Proof.Machine.execCpyZp z s
  | .cmpZp z => Sys2Proof.Machine.execCmpZp z s
  | .decZp z => Sys2Proof.Machine.execDecZp z s
  | .dcpZp z => Sys2Proof.Machine.execDcpZp z s
  | .cmpImm v => Sys2Proof.Machine.execCmpImm v s
  | .axsImm v => Sys2Proof.Machine.execAxsImm v s
  | .cpyAbs w => Sys2Proof.Machine.execCpyAbs w s
  | .cmpAbs w => Sys2Proof.Machine.execCmpAbs w s
  | .decAbs w => Sys2Proof.Machine.execDecAbs w s
  | .dcpAbs w => Sys2Proof.Machine.execDcpAbs w s
  | .bne o => Sys2Proof.Machine.execBne o s
  | .cmpIzy z => Sys2Proof.Machine.execCmpIzy z s
  | .dcpIzy z => Sys2Proof.Machine.execDcpIzy z s
  | .nopZpxD4 z => Sys2Proof.Machine.execNopZpxD4 z s
  | .cmpZpx z => Sys2Proof.Machine.execCmpZpx z s
  | .decZpx z => Sys2Proof.Machine.execDecZpx z s
  | .dcpZpx z => Sys2Proof.Machine.execDcpZpx z s
  | .cmpAbsy w => Sys2Proof.Machine.execCmpAbsy w s
  | .dcpAbsy w => Sys2Proof.Machine.execDcpAbsy w s
  | .nopAbsxDC w => Sys2Proof.Machine.execNopAbsxDC w s
  | .cmpAbsx w => Sys2Proof.Machine.execCmpAbsx w s
  | .decAbsx w => Sys2Proof.Machine.execDecAbsx w s
  | .dcpAbsx w => Sys2Proof.Machine.execDcpAbsx w s
  | .cpxImm v => Sys2Proof.Machine.execCpxImm v s
  | .sbcIzx z => Sys2Proof.Machine.execSbcIzx z s
  | .nopImmE2 v => Sys2Proof.Machine.execNopImmE2 v s
  | .isbIzx z => Sys2Proof.Machine.execIsbIzx z s
  | .cpxZp z => Sys2Proof.Machine.execCpxZp z s
  | .sbcZp z => Sys2Proof.Machine.execSbcZp z s
  | .incZp z => Sys2Proof.Machine.execIncZp z s
  | .isbZp z => Sys2Proof.Machine.execIsbZp z s
  | .sbcImmE9 v => Sys2Proof.Machine.execSbcImmE9 v s
  | .sbcImmEB v => Sys2Proof.Machine.execSbcImmEB v s
  | .cpxAbs w => Sys2Proof.Machine.execCpxAbs w s
  | .sbcAbs w => Sys2Proof.Machine.execSbcAbs w s
  | .incAbs w => Sys2Proof.Machine.execIncAbs w s
  | .isbAbs w => Sys2Proof.Machine.execIsbAbs w s
  | .beq o => Sys2Proof.Machine.execBeq o s
  | .sbcIzy z => Sys2Proof.Machine.execSbcIzy z s
  | .isbIzy z => Sys2Proof.Machine.execIsbIzy z s
  | .nopZpxF4 z => Sys2Proof.Machine.execNopZpxF4 z s
  | .sbcZpx z => Sys2Proof.Machine.execSbcZpx z s
  | .incZpx z => Sys2Proof.Machine.execIncZpx z s
  | .isbZpx z => Sys2Proof.Machine.execIsbZpx z s
  | .sbcAbsy w => Sys2Proof.Machine.execSbcAbsy w s
  | .isbAbsy w => Sys2Proof.Machine.execIsbAbsy w s
  | .nopAbsxFC w => Sys2Proof.Machine.execNopAbsxFC w s
  | .sbcAbsx w => Sys2Proof.Machine.execSbcAbsx w s
  | .incAbsx w => Sys2Proof.Machine.execIncAbsx w s
  | .isbAbsx w => Sys2Proof.Machine.execIsbAbsx w s
  | .brk => Sys2Proof.Machine.execBrk s
  | .jam02 => Sys2Proof.Machine.execJam02 s
  | .php => Sys2Proof.Machine.execPhp s
  | .aslAcc => Sys2Proof.Machine.execAslAcc s
  | .jam12 => Sys2Proof.Machine.execJam12 s
  | .clc => Sys2Proof.Machine.execClc s
  | .nopImpl1A => Sys2Proof.Machine.execNopImpl1A s
  | .jam22 => Sys2Proof.Machine.execJam22 s
  | .plp => Sys2Proof.Machine.execPlp s
  | .rolAcc => Sys2Proof.Machine.execRolAcc s
  | .jam32 => Sys2Proof.Machine.execJam32 s
  | .sec => Sys2Proof.Machine.execSec s
  | .nopImpl3A => Sys2Proof.Machine.execNopImpl3A s
  | .rti => Sys2Proof.Machine.execRti s
  | .jam42 => Sys2Proof.Machine.execJam42 s
  | .pha => Sys2Proof.Machine.execPha s
  | .lsrAcc => Sys2Proof.Machine.execLsrAcc s
  | .jam52 => Sys2Proof.Machine.execJam52 s
  | .cli => Sys2Proof.Machine.execCli s
  | .nopImpl5A => Sys2Proof.Machine.execNopImpl5A s
  | .rts => Sys2Proof.Machine.execRts s
  | .jam62 => Sys2Proof.Machine.execJam62 s
  | .pla => Sys2Proof.Machine.execPla s
  | .rorAcc => Sys2Proof.Machine.execRorAcc s
  | .jam72 => Sys2Proof.Machine.execJam72 s
  | .sei => Sys2Proof.Machine.execSei s
  | .nopImpl7A => Sys2Proof.Machine.execNopImpl7A s
  | .dey => Sys2Proof.Machine.execDey s
  | .txa => Sys2Proof.Machine.execTxa s
  | .jam92 => Sys2Proof.Machine.execJam92 s
  | .tya => Sys2Proof.Machine.execTya s
  | .txs => Sys2Proof.Machine.execTxs s
  | .tay => Sys2Proof.Machine.execTay s
  | .tax => Sys2Proof.Machine.execTax s
  | .jamB2 => Sys2Proof.Machine.execJamB2 s
  | .clv => Sys2Proof.Machine.execClv s
  | .tsx => Sys2Proof.Machine.execTsx s
  | .iny => Sys2Proof.Machine.execIny s
  | .dex => Sys2Proof.Machine.execDex s
  | .jamD2 => Sys2Proof.Machine.execJamD2 s
  | .cld => Sys2Proof.Machine.execCld s
  | .nopImplDA => Sys2Proof.Machine.execNopImplDA s
  | .inx => Sys2Proof.Machine.execInx s
  | .nopImplEA => Sys2Proof.Machine.execNopImplEA s
  | .jamF2 => Sys2Proof.Machine.execJamF2 s
  | .sed => Sys2Proof.Machine.execSed s
  | .nopImplFA => Sys2Proof.Machine.execNopImplFA s

end Sys2Proof.Machine
end

