-- ==== Sys2Proof/Machine/Step.lean ====
section
/-!
DEFINITION. One step of the CPU (40_execution.md R150, R156), and the placing of an instruction where the next step fetches it.
-/

namespace Sys2Proof.Machine

/-- R150, R156: `step()`: a jammed CPU does nothing; any other fetches the instruction at PC and executes it. -/
def step (s : State) : Host.Outcome State Fault Refusal :=
  if halted s then .next s else exec (fetch s).1 (fetch s).2

/-- The instruction of a table word (`tableByte`), stored where `step` fetches its next instruction: its three bytes at PC, PC + 1
and PC + 2, in RAM or in the image. Where one of them is neither (the register window, unmapped space), no byte can stand there, and
PC goes to $0000, which is RAM. A jam is cleared, or no step would fetch (R156; log entry 4). -/
def State.withFetchWord (s : State) (nbits w : Nat) : State :=
  let s1 := s.setJammed false
  let s2 :=
    if placeable s1.params s1.pc && placeable s1.params (s1.pc + 1) && placeable s1.params (s1.pc + 2) then s1
    else s1.setPC 0x0000
  place (s2.pc + 2) (tableByte nbits w 2)
    (place (s2.pc + 1) (tableByte nbits w 1) (place s2.pc (tableByte nbits w 0) s2))

end Sys2Proof.Machine
end

