-- ==== Sys2Proof/Machine/Launch.lean ====
section
/-!
DEFINITION. `run` (40_execution.md R155) and the NSF launch protocol (70_reset_and_hazards.md R530 to R538). The loops take fuel;
a step that does not jam adds at least two cycles, so the fuel the callers give is never used up (log entry 17).
-/

namespace Sys2Proof.Machine

/-- R498: the typed errors the host's calls answer. -/
inductive HostError where
  /-- A JAM opcode was fetched, or the CPU was jammed already (R480). -/
  | cpuJammed
  /-- The song number lies outside `1..TOTAL_SONGS` (R530). -/
  | invalidSongNumber
  /-- `run_play_frame` before a successful `init_song` (R536). -/
  | uninitializedPlay
  /-- More samples are due than the buffer holds (R433). -/
  | bufferTooSmall
  deriving DecidableEq, Repr

/-- R561: the two ways a launch ends that are no error, with the cycles elapsed. -/
inductive LaunchEnd where
  | trapped (elapsed : Nat)
  | budgetExhausted (elapsed : Nat)
  deriving DecidableEq, Repr

/-- The state after one `step()`; a step of this machine always answers a next state. -/
def stepState (s : State) : State :=
  match step s with
  | .next t => t
  | .fault _ => s
  | .refused _ => s

/-- R155: the loop of `run`. -/
def runLoop : Nat → Nat → Nat → State → State
  | 0, _, _, s => s
  | fuel + 1, target, start, s =>
    if s.cycles - start < target && !s.jammed then runLoop fuel target start (stepState s) else s

/-- R155: `run(target)`: the cycles elapsed and the state after. -/
def run (target : Nat) (s : State) : Nat × State :=
  let t := runLoop target target s.cycles s
  (t.cycles - s.cycles, t)

/-- R49: the session status. -/
def State.setStatus (s : State) (st : Status) : State := { s with session := { s.session with status := st } }

/-- R532, D19: `write_trap()`: NOP and JMP `T` in the four RAM bytes from `T = TRAP_ADDR`. -/
def writeTrap (s : State) : State :=
  let t := zeroPage s.params.trapAddr
  write8 (t + 3) 0x00 (write8 (t + 2) s.params.trapAddr (write8 (t + 1) 0x4C (write8 t 0xEA s)))

/-- R531, D33: X at INIT and PLAY entry. -/
def regionCode : TvRegion → Byte
  | .ntsc => 0x00
  | .pal => 0x01

/-- R531, D21, D22: the registers for an entry point: A = song - 1 (R10: its low 8 bits), X by region, Y = 0, P = $26, SP = $FD, then
`TRAP_ADDR` pushed as the return address. -/
def setup (entry : Addr) (s : State) : State :=
  let s1 :=
    { s with
      a := BitVec.ofNat 8 (s.session.song - 1)
      x := regionCode s.params.region
      y := 0x00
      p := 0x26
      sp := 0xFD }
  (push16 (zeroPage s.params.trapAddr) s1).setPC entry

/-- R530: whether `init_song(n)` accepts the song number. -/
def songOk (p : Params) (n : Nat) : Bool := 1 ≤ n && n ≤ p.file.totalSongs

/-- R530, D20: what a successful `init_song(n)` does. -/
def loadSong (n : Nat) (s : State) : State :=
  let s1 :=
    { s with ram := [], jammed := false, session := { loaded := true, song := n, status := .idle } }
  setup s1.params.file.initAddr (writeTrap s1)

/-- R530: `init_song(n)`, of a song of the mapped file. -/
def initSong (n : Nat) (s : State) : Except HostError Unit × State :=
  if songOk s.params n then (.ok (), loadSong n s) else (.error .invalidSongNumber, s)

/-- R530, R48: `map IMAGE at LOAD_ADDR`, with the entry points and the song count of the same file. -/
def State.mapFile (s : State) (f : SongFile) : State := { s with params := { s.params with file := f } }

/-- R560, R530: the host's call `init_song(n)` with a song file as its configuration (log entry 25): the song number is checked
against that file, which is mapped if the call succeeds; a call that fails changes nothing, the mapped file included. -/
def initSongOf (f : SongFile) (n : Nat) (s : State) : Except HostError Unit × State :=
  match initSong n (s.mapFile f) with
  | (.ok _, t) => (.ok (), t)
  | (.error e, _) => (.error e, s)

/-- R534, D24: the launch loop: the budget before each step, the jam and the trap after it. -/
def launchLoop : Nat → Nat → Nat → State → Except HostError LaunchEnd × State
  | 0, _, start, s => (.ok (.budgetExhausted (s.cycles - start)), s.setStatus .budgetExhausted)
  | fuel + 1, budget, start, s =>
    if budget ≤ s.cycles - start then
      (.ok (.budgetExhausted (s.cycles - start)), s.setStatus .budgetExhausted)
    else
      let t := stepState s
      if t.jammed then (.error .cpuJammed, t.setStatus .jammed)
      else if t.pc = zeroPage t.params.trapAddr then (.ok (.trapped (t.cycles - start)), t.setStatus .trapped)
      else launchLoop fuel budget start t

/-- R534: `launch(budget)`. -/
def launch (budget : Nat) (s : State) : Except HostError LaunchEnd × State :=
  launchLoop budget budget s.cycles (s.setStatus .running)

/-- R535: what `run_init` does with what `init_song` answered. -/
def launchInit : Except HostError Unit × State → Except HostError LaunchEnd × State
  | (.ok _, t) => launch t.params.initBudget t
  | (.error e, t) => (.error e, t)

/-- R535: `run_init(n)`, of a song of the mapped file. -/
def runInit (n : Nat) (s : State) : Except HostError LaunchEnd × State := launchInit (initSong n s)

/-- R535, R560: the host's call `run_init(n)` with a song file as its configuration. -/
def runInitOf (f : SongFile) (n : Nat) (s : State) : Except HostError LaunchEnd × State := launchInit (initSongOf f n s)

/-- R536: `run_play_frame()`. -/
def runPlayFrame (s : State) : Except HostError LaunchEnd × State :=
  if !s.session.loaded then (.error .uninitializedPlay, s)
  else if s.jammed then (.error .cpuJammed, s.setStatus .jammed)
  else
    let t := setup s.params.file.playAddr (writeTrap s)
    launch t.params.playBudget t

end Sys2Proof.Machine
end

