-- ==== Sys2Proof/Machine/Audio.lean ====
section
/-!
DEFINITION. The sample accumulator and the rendering of a frame (48_audio_pipeline.md R430 to R436). The samples come from the
external tone generator, as FREE VALUES (R434, log entry 7). The conversion is given twice: sample by sample (R435), and in place,
back to front, over the host's buffer (R436).
-/

namespace Sys2Proof.Machine

/-- R431: `INC = floor(SAMPLE_RATE * 65536 / 60)`. -/
def sampleIncrement (p : Params) : Nat := p.sampleRate * 65536 / 60

/-- R430: `frame_due_samples()`. -/
def frameDueSamples (s : State) : Nat × State :=
  let acc := s.acc + BitVec.ofNat 32 (sampleIncrement s.params)
  ((acc >>> 16).toNat, { s with acc := acc &&& 0x0000FFFF })

/-- R435: an unsigned 8-bit sample as a signed 16-bit sample, `(u XOR $80) << 8`. -/
def convertSample (u : Byte) : Sample := (u ^^^ 0x80).setWidth 16 <<< 8

/-- R436: a 16-bit sample as two bytes in the host's byte order. -/
def sampleBytes (o : ByteOrder) (v : Sample) : Byte × Byte :=
  match o with
  | .little => (lo v, hi v)
  | .big => (hi v, lo v)

/-- R436: write sample `i` at byte offsets 2i and 2i + 1. -/
def storeSample (o : ByteOrder) (buf : List Byte) (i : Nat) (v : Sample) : List Byte :=
  (buf.set (2 * i) (sampleBytes o v).1).set (2 * i + 1) (sampleBytes o v).2

/-- R436: convert the first `n` bytes of the buffer in place, visiting `n - 1, ..., 0`. -/
def convertInPlace (o : ByteOrder) : Nat → List Byte → List Byte
  | 0, buf => buf
  | n + 1, buf => convertInPlace o n (storeSample o buf n (convertSample (buf.getD n 0x00)))

/-- R434: `render_samples(buffer, n)`: FREE VALUES in the first `n` bytes of the buffer, one draw each. -/
def renderSamples (n draws : Nat) (buf : List Byte) : List Byte :=
  (List.range n).map (fun k => Config.toneSample (draws + k)) ++ buf.drop n

/-- What `render_frame` answers: the number of samples and the buffer, or that they do not fit (the buffer is as it was). -/
inductive RenderEnd where
  | rendered (n : Nat) (buf : List Byte)
  | tooSmall
  deriving DecidableEq, Repr

/-- R433, D26: `render_frame(buffer, capacity)`; the accumulator advances in both outcomes. -/
def renderFrame (buf : List Byte) (capacity : Nat) (s : State) : RenderEnd × State :=
  let (n, s1) := frameDueSamples s
  if capacity < n then (.tooSmall, s1)
  else
    (.rendered n (convertInPlace s.params.hostOrder n (renderSamples n s1.draws buf)),
      { s1 with draws := s1.draws + n })

end Sys2Proof.Machine
end

