-- ==== Sys2Proof/Machine/Interrupts.lean ====
section
/-!
DEFINITION. The host's calls on the CPU state (60_exceptions.md R483 to R490, 70_reset_and_hazards.md R520, R521): NMI and IRQ, the
CPU's reset, and the state at power-on. The calls are made between steps (R487); none is latched (R53, R486).
-/

namespace Sys2Proof.Machine

/-- R484: the entry common to `nmi()` and `irq()`, through vector `v`, 7 cycles (D6). -/
def interrupt (v : Addr) (s : State) : State := (enter s.pc s.interruptImage v s).tick 7

/-- R485, R481: `nmi()`: nothing on a jammed CPU, taken whatever I holds. -/
def nmi (s : State) : State := if s.jammed then s else interrupt nmiVector s

/-- R486, R481: `irq()`: nothing on a jammed CPU or while I is set; not remembered. -/
def irq (s : State) : State := if s.jammed || s.flags.i then s else interrupt irqVector s

/-- R520, D3: A, X, Y and the flags after a reset: FREE VALUES, four draws; I set, R set, B clear (log entry 5). -/
def resetDraws (s : State) : State :=
  { s with
    a := Config.resetByte s.draws
    x := Config.resetByte (s.draws + 1)
    y := Config.resetByte (s.draws + 2)
    p := packFlags { flagsOf (Config.resetByte (s.draws + 3)) with i := true }
    draws := s.draws + 4 }

/-- R520: `reset()`: SP = $FD, I set, the jam cleared, PC from the reset vector; `cycles`, RAM, the accumulator, the ring and the
session stay. -/
def resetCpu (s : State) : State :=
  let s1 := ((resetDraws s).setSP 0xFD).setJammed false
  let (target, s2) := read16 resetVector s1
  s2.setPC target

/-- R521, D2: RAM at power-on: FREE VALUES, in the canonical form of a memory. -/
def powerOnRam : List Host.Cell :=
  ((List.range 2048).map (fun i => (i, Config.powerOnRam i))).filter (fun c => c.2 != Memory.unlisted)

/-- R521, D2: the state at power-on, before the first `reset()` or `init_song`: CPU registers and RAM are FREE VALUES, B is 0 and R
is 1 as always (R41, R42); everything else as after reset. -/
def powerOn : State :=
  { State.reset with
    a := Config.powerOnByte 0
    x := Config.powerOnByte 1
    y := Config.powerOnByte 2
    sp := Config.powerOnByte 3
    pc := wordOf (Config.powerOnByte 4) (Config.powerOnByte 5)
    p := packFlags (flagsOf (Config.powerOnByte 6))
    ram := powerOnRam }

end Sys2Proof.Machine
end

