-- ==== Sys2Proof/Machine/RingBuffer.lean ====
section
/-!
DEFINITION. The ring buffer (48_audio_pipeline.md R437 to R444, 20_memory.md R90 to R94): downmix, scale, push and pull. The
operations on the ring are the single steps of R91: the view of the other side's index, the slot access, the publication of one's
own index. `pushLoop` and `pull` put them together as R439 and R440 do; `producerMove` and `consumerMove` take them one at a time, so
that the other agent may move between them (R94).
-/

namespace Sys2Proof.Machine

/-- R437, D27: `floor((L + R) / 2)`, the arithmetic shift of the 17-bit sum (Int division by a positive number rounds down). -/
def mixPair (l r : Sample) : Sample := BitVec.ofInt 16 ((l.toInt + r.toInt) / 2)

/-- R437, D37: interleaved L, R frames as mono samples. -/
def mixFrames : List Sample → List Sample
  | l :: r :: rest => mixPair l r :: mixFrames rest
  | _ => []

/-- R437, D39: the mono sequence of a push; a channel count that is neither 1 nor 2 gives none. -/
def downmix (buf : List Sample) (count channels : Nat) : List Sample :=
  if channels = 1 then buf.take count
  else if channels = 2 then mixFrames (buf.take (2 * count))
  else []

/-- R438: `clamp((s + 32768) >> (16 - RING_BITS), 0, 2^RING_BITS - 1)`. -/
def scaleSample (ringBits : Nat) (v : Sample) : Elem :=
  BitVec.ofInt 16 (max 0 (min ((v.toInt + 32768) / 2 ^ (16 - ringBits)) (2 ^ ringBits - 1)))

/-- R437, R438: the elements a push appends. -/
def pushElements (p : Params) (buf : List Sample) (count channels : Nat) : List Elem :=
  (downmix buf count channels).map (scaleSample p.ringBits)

/-- R51: the element in slot `k`; a slot never written holds a FREE VALUE of RING_BITS bits (log entry 9). -/
def slotRead (ringBits : Nat) : List (Nat × Elem) → Nat → Elem
  | [], k => BitVec.ofNat 16 ((Config.ringSlot k).toNat % 2 ^ ringBits)
  | (j, q) :: rest, k => if j = k then q else slotRead ringBits rest k

/-- R439: the slots with element `q` in slot `k`, the slot numbers strictly rising. -/
def slotWrite : List (Nat × Elem) → Nat → Elem → List (Nat × Elem)
  | [], k, q => [(k, q)]
  | (j, u) :: rest, k, q =>
    if k < j then (k, q) :: (j, u) :: rest
    else if k = j then (k, q) :: rest
    else (j, u) :: slotWrite rest k q

/-- R444: the slot of an index, `index AND (RING_CAP - 1)`. -/
def slotOf (ringCap : Nat) (i : Index) : Nat := (i &&& BitVec.ofNat 32 (ringCap - 1)).toNat

/-- R92: what a side sees of the other's index: some value from the one it saw last (`seen`) to the one there now (`now`), by the draw
`k`. -/
def viewIndex (seen now : Index) (k : Nat) : Index := seen + BitVec.ofNat 32 (k % ((now - seen).toNat + 1))

/-- R439, R92: the producer observes `r`; `view` numbers its draws. -/
def Ring.observeRead (view : Nat → Nat) (g : Ring) : Ring :=
  { g with rSeen := viewIndex g.rSeen g.r (view g.rDraws), rDraws := g.rDraws + 1 }

/-- R440, R92: the consumer observes `w`; `view` numbers its draws. -/
def Ring.observeWrite (view : Nat → Nat) (g : Ring) : Ring :=
  { g with wSeen := viewIndex g.wSeen g.w (view g.wDraws), wDraws := g.wDraws + 1 }

/-- R439: full, by the read index the producer saw. -/
def Ring.looksFull (ringCap : Nat) (g : Ring) : Bool := (g.w - g.rSeen).toNat == ringCap

/-- R440: empty, by the write index the consumer saw. -/
def Ring.looksEmpty (g : Ring) : Bool := g.wSeen == g.r

/-- R439: `buf[w AND (RING_CAP - 1)] <- q`. -/
def Ring.store (ringCap : Nat) (q : Elem) (g : Ring) : Ring := { g with slots := slotWrite g.slots (slotOf ringCap g.w) q }

/-- R439, R91: publish `w + 1`, after the slot write. -/
def Ring.publishWrite (g : Ring) : Ring := { g with w := g.w + 1 }

/-- R440: `buf[r AND (RING_CAP - 1)]`. -/
def Ring.load (ringCap ringBits : Nat) (g : Ring) : Elem := slotRead ringBits g.slots (slotOf ringCap g.r)

/-- R440, R91: publish `r + 1`, after the slot read, and keep the element as the last. -/
def Ring.publishRead (q : Elem) (g : Ring) : Ring := { g with r := g.r + 1, last := q }

/-- R439, D40: append elements in order until the ring looks full; `stored` counts those stored before. -/
def Ring.pushLoop (view : Nat → Nat) (ringCap : Nat) : List Elem → Nat → Ring → Nat × Ring
  | [], stored, g => (stored, g)
  | q :: rest, stored, g =>
    if (g.observeRead view).looksFull ringCap then (stored, g.observeRead view)
    else Ring.pushLoop view ringCap rest (stored + 1) (((g.observeRead view).store ringCap q).publishWrite)

/-- R440: `pull_sample()` on the ring. -/
def Ring.pull (view : Nat → Nat) (ringCap ringBits : Nat) (g : Ring) : Elem × Ring :=
  if (g.observeWrite view).looksEmpty then (g.last, g.observeWrite view)
  else
    ((g.observeWrite view).load ringCap ringBits,
      (g.observeWrite view).publishRead ((g.observeWrite view).load ringCap ringBits))

/-- R439: `push_to_ring(buffer, count, channels)`, no consumer move in between; the stale views are FREE VALUES (log entry 8). -/
def pushToRing (buf : List Sample) (count channels : Nat) (s : State) : Nat × State :=
  let (stored, g) :=
    Ring.pushLoop Config.readIndexView s.params.ringCap (pushElements s.params buf count channels) 0 s.ring
  (stored, { s with ring := g })

/-- R440: `pull_sample()`, no producer move in between; the stale view is a FREE VALUE (log entry 8). -/
def pullSample (s : State) : Elem × State :=
  let (q, g) := Ring.pull Config.writeIndexView s.params.ringCap s.params.ringBits s.ring
  (q, { s with ring := g })

/-- R439: a push begins, if none is in progress. -/
def beginPush (buf : List Sample) (count channels : Nat) (s : State) : State :=
  match s.producer with
  | .idle => { s with producer := .observing (pushElements s.params buf count channels) 0 }
  | .observing _ _ => s
  | .storing _ _ _ => s
  | .publishing _ _ _ => s

/-- R439, R91, R94: the next single step of the push in progress; when the push returns, the number stored. -/
def producerMove (s : State) : Option Nat × State :=
  match s.producer with
  | .idle => (none, s)
  | .observing [] stored => (some stored, { s with producer := .idle })
  | .observing (q :: rest) stored =>
    let g := s.ring.observeRead Config.readIndexView
    if g.looksFull s.params.ringCap then (some stored, { s with ring := g, producer := .idle })
    else (none, { s with ring := g, producer := .storing q rest stored })
  | .storing q rest stored =>
    (none, { s with ring := s.ring.store s.params.ringCap q, producer := .publishing q rest stored })
  | .publishing _ rest stored =>
    (none, { s with ring := s.ring.publishWrite, producer := .observing rest (stored + 1) })

/-- R440, R91, R94: the next single step of a pull, which begins with the view of `w`; when the pull returns, the element. -/
def consumerMove (s : State) : Option Elem × State :=
  match s.consumer with
  | .idle =>
    let g := s.ring.observeWrite Config.writeIndexView
    if g.looksEmpty then (some g.last, { s with ring := g })
    else (none, { s with ring := g, consumer := .reading })
  | .reading => (none, { s with consumer := .publishing (s.ring.load s.params.ringCap s.params.ringBits) })
  | .publishing q => (some q, { s with ring := s.ring.publishRead q, consumer := .idle })

end Sys2Proof.Machine
end

