-- ==== Sys2Proof/Machine/HostCalls.lean ====
section
/-!
DEFINITION. Everything that can happen to the block (70_reset_and_hazards.md R560, 00_scope.md R6): the host's eleven calls with their
answers, and the single moves of the producer inside a push and of the consumer inside a pull (20_memory.md R94).
-/

namespace Sys2Proof.Machine

/-- R560: the calls of the host, and the moves of the two sides of the ring. -/
inductive Move where
  | reset
  | step
  | run (target : Nat)
  | nmi
  | irq
  | initSong (f : SongFile) (n : Nat)
  | runInit (f : SongFile) (n : Nat)
  | runPlayFrame
  | frameDueSamples
  | renderFrame (buf : List Byte) (capacity : Nat)
  | pushToRing (buf : List Sample) (count channels : Nat)
  | pullSample
  | beginPush (buf : List Sample) (count channels : Nat)
  | producerMove
  | consumerMove
  deriving DecidableEq, Repr

/-- R560: what the block returns. -/
inductive Answer where
  | nothing
  | elapsed (n : Nat)
  | launched (e : LaunchEnd)
  | due (n : Nat)
  | rendered (n : Nat) (buf : List Byte)
  | stored (n : Nat)
  | sample (q : Elem)
  | error (e : HostError)
  deriving DecidableEq, Repr

/-- R561: the answer of a launch. -/
def launchAnswer : Except HostError LaunchEnd → Answer
  | .ok e => .launched e
  | .error e => .error e

/-- R560: one move of the block: the answer and the state after it. -/
def act (m : Move) (s : State) : Answer × State :=
  match m with
  | .reset => (.nothing, resetCpu s)
  | .step => (.nothing, stepState s)
  | .run target => (.elapsed (run target s).1, (run target s).2)
  | .nmi => (.nothing, nmi s)
  | .irq => (.nothing, irq s)
  | .initSong f n =>
    match initSongOf f n s with
    | (.ok _, t) => (.nothing, t)
    | (.error e, t) => (.error e, t)
  | .runInit f n => (launchAnswer (runInitOf f n s).1, (runInitOf f n s).2)
  | .runPlayFrame => (launchAnswer (runPlayFrame s).1, (runPlayFrame s).2)
  | .frameDueSamples => (.due (frameDueSamples s).1, (frameDueSamples s).2)
  | .renderFrame buf capacity =>
    match renderFrame buf capacity s with
    | (.rendered n b, t) => (.rendered n b, t)
    | (.tooSmall, t) => (.error .bufferTooSmall, t)
  | .pushToRing buf count channels =>
    (.stored (pushToRing buf count channels s).1, (pushToRing buf count channels s).2)
  | .pullSample => (.sample (pullSample s).1, (pullSample s).2)
  | .beginPush buf count channels => (.nothing, beginPush buf count channels s)
  | .producerMove =>
    match producerMove s with
    | (some n, t) => (.stored n, t)
    | (none, t) => (.nothing, t)
  | .consumerMove =>
    match consumerMove s with
    | (some q, t) => (.sample q, t)
    | (none, t) => (.nothing, t)

end Sys2Proof.Machine
end

