-- ==== Sys2Proof/WellFormed.lean ====
section
/-!
DEFINITION. What a row of the opcode table, an instruction, a song file and a set of parameters must satisfy. The operands
of an instruction are bit vectors of their field's width, so no instruction carries a value its encoding cannot hold; what
is checked of an instruction is that its row is well formed and that its bytes are as many as its row says.
-/

namespace Sys2Proof

/-- R153: the rows whose cost grows by one when indexing crosses a page, the read-kind rows of three modes. -/
def Row.pageCrossRule (r : Row) : Bool :=
  r.pageCross == (r.access == .read && (r.mode == .absx || r.mode == .absy || r.mode == .izy))

/-- R152, R172: branch rows are the rows of mode `rel`. -/
def Row.branchRule (r : Row) : Bool := r.branch == (r.mode == .rel)

/-- R154, R400: base cycles lie in 2..8, but for a JAM row, which costs `JAM_CYCLES`. -/
def Row.cyclesRule (r : Row) : Bool :=
  match r.cycles with
  | .fixed n => 2 ≤ n && n ≤ 8 && r.mnemonic != "JAM"
  | .jamCycles => r.mnemonic == "JAM"

/-- R165, R169: mode `zpy` belongs to LDX, STX, LAX and SAX, mode `ind` to JMP. -/
def Row.modeRule (r : Row) : Bool :=
  (r.mode != .zpy || r.mnemonic == "LDX" || r.mnemonic == "STX" || r.mnemonic == "LAX" || r.mnemonic == "SAX") &&
  (r.mode != .ind || r.mnemonic == "JMP")

/-- R173: a read-kind row has an immediate or a memory operand, a write-kind or read-modify-write row a memory operand. -/
def Row.accessRule (r : Row) : Bool :=
  match r.access with
  | .none => true
  | .read => !([Mode.impl, .acc, .ind, .rel].contains r.mode)
  | .write => !([Mode.impl, .acc, .imm, .ind, .rel].contains r.mode)
  | .rmw => !([Mode.impl, .acc, .imm, .ind, .rel].contains r.mode)

/-- A row that meets the table's rules. -/
def Row.wellFormed (r : Row) : Bool :=
  r.pageCrossRule && r.branchRule && r.cyclesRule && r.modeRule && r.accessRule

/-- An instruction of a well-formed row, whose bytes are as many as the row says. -/
def Instr.wellFormed (i : Instr) : Bool :=
  i.row.wellFormed && (encode i).length == i.row.length

/-- R8, R48: a song file has at least one song and an image in canonical form, every listed offset inside it. -/
abbrev SongFile.wellFormed (f : SongFile) : Prop :=
  1 ≤ f.totalSongs ∧ Machine.Memory.wf f.image ∧ Machine.Memory.below f.imageLen f.image

/-- R8: `RING_CAP` is a power of two in `1..2^31`. -/
def Params.ringCapOk (p : Params) : Bool := (List.range 32).any (fun k => p.ringCap == 2 ^ k)

/-- R8, without the song file: every parameter in its range. -/
abbrev Params.hostOk (p : Params) : Prop :=
  p.trapAddr ≤ 0xFC ∧ 1 ≤ p.sampleRate ∧ p.sampleRate ≤ 65535 ∧ p.ringCapOk = true ∧ 1 ≤ p.ringBits ∧ p.ringBits ≤ 16

/-- R562 `params_in_range`: every parameter of R8 lies in its range. -/
abbrev Params.inRange (p : Params) : Prop := p.file.wellFormed ∧ p.hostOk

end Sys2Proof
end

