-- ==== Sys2Proof/Safety.lean ====
section
/-!
DEFINITION. The terms the claims use: the invariant of the block, the frames of the instructions (what one leaves unchanged), the
flag results as the spec's rules state them in numbers, and the queue the ring buffer stands for.
-/

namespace Sys2Proof.Machine

/-- R42, R41: P has R set and B clear. -/
abbrev StatusOk (p : Byte) : Prop := p.getLsbD 5 = true ∧ p.getLsbD 4 = false

/-- R47: RAM is a canonical memory of 2,048 bytes. -/
abbrev RamOk (m : List Host.Cell) : Prop := Memory.wf m ∧ Memory.below 2048 m

/-- R49: a loaded session has a song of the file; one not loaded is idle. -/
abbrev SessionOk (p : Params) (e : Session) : Prop :=
  (e.loaded = true → 1 ≤ e.song ∧ e.song ≤ p.file.totalSongs) ∧ (e.loaded = false → e.status = .idle)

/-- R51: an element has RING_BITS bits. -/
abbrev ElemOk (ringBits : Nat) (q : Elem) : Prop := q.toNat < 2 ^ ringBits

/-- R51: the slots written lie below RING_CAP, their numbers strictly rising, each an element. -/
abbrev SlotsOk (ringCap ringBits : Nat) (m : List (Nat × Elem)) : Prop :=
  m.Pairwise (fun c d => c.1 < d.1) ∧ ∀ c ∈ m, c.1 < ringCap ∧ ElemOk ringBits c.2

/-- R441: the number of elements queued, `(w - r) mod 2^32`. -/
def Ring.used (g : Ring) : Nat := (g.w - g.r).toNat

/-- R441, R92: the index invariant, with what each side saw last: `rSeen <= r <= wSeen <= w`, mod 2^32, and the producer's distance to what
it saw is at most RING_CAP. -/
abbrev IndicesOk (ringCap : Nat) (g : Ring) : Prop :=
  g.used ≤ ringCap ∧ (g.w - g.rSeen).toNat ≤ ringCap ∧
  (g.w - g.rSeen).toNat = (g.w - g.r).toNat + (g.r - g.rSeen).toNat ∧
  (g.w - g.r).toNat = (g.w - g.wSeen).toNat + (g.wSeen - g.r).toNat

/-- R442: the queue the ring stands for: the elements in the slots of `r`, `r + 1`, up to `w`, oldest first. -/
def Ring.queue (ringCap ringBits : Nat) (g : Ring) : List Elem :=
  (List.range g.used).map (fun k => slotRead ringBits g.slots (slotOf ringCap (g.r + BitVec.ofNat 32 k)))

/-- R439, R91: what holds inside a push: the elements are elements, before a slot write and before a publication a slot is free by what
the producer saw, and before a publication the slot holds the element. -/
def ProducerOk (p : Params) (g : Ring) : Producer → Prop
  | .idle => True
  | .observing rest _ => ∀ q ∈ rest, ElemOk p.ringBits q
  | .storing q rest _ =>
    ElemOk p.ringBits q ∧ (∀ e ∈ rest, ElemOk p.ringBits e) ∧ (g.w - g.rSeen).toNat < p.ringCap
  | .publishing q rest _ =>
    ElemOk p.ringBits q ∧ (∀ e ∈ rest, ElemOk p.ringBits e) ∧ (g.w - g.rSeen).toNat < p.ringCap ∧
      slotRead p.ringBits g.slots (slotOf p.ringCap g.w) = q

/-- R440, R91: what holds inside a pull: an element is there by what the consumer saw, and the element read is the one in the slot. -/
def ConsumerOk (p : Params) (g : Ring) : Consumer → Prop
  | .idle => True
  | .reading => g.wSeen ≠ g.r
  | .publishing q => g.wSeen ≠ g.r ∧ slotRead p.ringBits g.slots (slotOf p.ringCap g.r) = q

/-- R51, R441: the ring, with the push and the pull in progress. -/
def RingOk (s : State) : Prop :=
  SlotsOk s.params.ringCap s.params.ringBits s.ring.slots ∧ ElemOk s.params.ringBits s.ring.last ∧
  IndicesOk s.params.ringCap s.ring ∧ ProducerOk s.params s.ring s.producer ∧ ConsumerOk s.params s.ring s.consumer

/-- The invariant of the block: P's fixed bits (R41, R42), canonical RAM (R47), a song file with at least one song and a canonical image
of `IMAGE_LEN` bytes (R8, R48), the session (R49), an accumulator that keeps only a fraction (R50), the ring (R441), and the other
parameters in their ranges (R8). -/
def State.Inv (s : State) : Prop :=
  StatusOk s.p ∧ RamOk s.ram ∧ s.params.file.wellFormed ∧ SessionOk s.params s.session ∧ s.acc.toNat < 65536 ∧
  s.params.hostOk ∧ RingOk s

/-- R560, R94: the premises of a move: a producer's call is made with no push in progress, a consumer's call with no pull in
progress; `init_song` and `run_init` are given a song file in the ranges of R8; the single moves of a push and a pull need nothing. -/
def Move.allowed : Move → State → Prop
  | .pushToRing _ _ _, s => s.producer = .idle
  | .pullSample, s => s.consumer = .idle
  | .producerMove, _ => True
  | .consumerMove, _ => True
  | .reset, s => s.producer = .idle
  | .step, s => s.producer = .idle
  | .run _, s => s.producer = .idle
  | .nmi, s => s.producer = .idle
  | .irq, s => s.producer = .idle
  | .initSong f _, s => s.producer = .idle ∧ f.wellFormed
  | .runInit f _, s => s.producer = .idle ∧ f.wellFormed
  | .runPlayFrame, s => s.producer = .idle
  | .frameDueSamples, s => s.producer = .idle
  | .renderFrame _ _, s => s.producer = .idle
  | .beginPush _ _ _, s => s.producer = .idle

/-- A, X, Y and SP. -/
def State.regs (s : State) : Byte × Byte × Byte × Byte := (s.a, s.x, s.y, s.sp)

/-- Frame: everything but the registers, the flags, PC, `cycles`, memory and the bus trace is as before. -/
def KeepsBlock (s t : State) : Prop :=
  t.jammed = s.jammed ∧ t.session = s.session ∧ t.acc = s.acc ∧ t.ring = s.ring ∧ t.producer = s.producer ∧
  t.consumer = s.consumer ∧ t.params = s.params

/-- Frame: every byte of memory reads as before. -/
def KeepsMemory (s t : State) : Prop := ∀ b, peek t b = peek s b

/-- Frame: the byte at `a` is `v` where `a` is RAM (at each of its mirrors, R71), every other byte reads as before. -/
def StoresAt (a : Addr) (v : Byte) (s t : State) : Prop :=
  ∀ b, peek t b = if a < 0x2000 ∧ region s.params b = region s.params a then some v else peek s b

/-- R73: the events of a bus read of `a` answered by `v`. -/
def readEvents (p : Params) (a : Addr) (v : Byte) : List BusEvent :=
  if region p a = .registers then [.rd a v] else []

/-- R73: the events of a bus write of `v` to `a`. -/
def writeEvents (p : Params) (a : Addr) (v : Byte) : List BusEvent :=
  if region p a = .registers then [.wr a v] else []

/-- The effective address of a memory operand. -/
def eaOf (m : MemOperand) (s : State) : Addr := (resolve m s).1.ea

/-- The operand byte M of a read-kind instruction. -/
def byteOf (o : ReadOperand) (s : State) : Byte := (readOperand o s).byte

/-- R173: the events of reading an operand. -/
def operandEvents (o : ReadOperand) (s : State) : List BusEvent :=
  match o with
  | .imm _ => []
  | .mem m => readEvents s.params (eaOf m s) (byteOf o s)

/-- R152, R153: the page-cross penalty of an operand: one where indexing changes the high byte of the address. -/
def crossPenalty (o : ReadOperand) (s : State) : Nat :=
  match o with
  | .imm _ => 0
  | .mem (.absx w) => if w.toNat / 256 = (eaOf (.absx w) s).toNat / 256 then 0 else 1
  | .mem (.absy w) => if w.toNat / 256 = (eaOf (.absy w) s).toNat / 256 then 0 else 1
  | .mem (.izy z) => if (pointerAt z s).1.toNat / 256 = (eaOf (.izy z) s).toNat / 256 then 0 else 1
  | .mem (.zp _) => 0
  | .mem (.zpx _) => 0
  | .mem (.zpy _) => 0
  | .mem (.abs _) => 0
  | .mem (.izx _) => 0

/-- Frame of a read-kind instruction of `base` cycles: PC past it, its cycles, the events of its operand, and no byte of memory and
nothing of the rest of the block changed. -/
def ReadFrame (base : Nat) (o : ReadOperand) (s t : State) : Prop :=
  t.pc = s.pc + BitVec.ofNat 16 (readLength o) ∧ t.cycles = s.cycles + base + crossPenalty o s ∧
  t.trace = s.trace ++ operandEvents o s ∧ t.draws = s.draws + (operandEvents o s).length ∧
  KeepsMemory s t ∧ KeepsBlock s t

/-- Frame of a store of `v`: PC past it, its cycles, the byte at EA, the event of the write, and nothing else. -/
def StoreFrame (base : Nat) (m : MemOperand) (v : Byte) (s t : State) : Prop :=
  t.pc = s.pc + BitVec.ofNat 16 (memLength m) ∧ t.cycles = s.cycles + base ∧
  t.trace = s.trace ++ writeEvents s.params (eaOf m s) v ∧ t.draws = s.draws ∧
  StoresAt (eaOf m s) v s t ∧ KeepsBlock s t

/-- Frame of a read-modify-write that writes `v`: as a store, with the event of the one read before that of the one write. -/
def RmwFrame (base : Nat) (m : MemOperand) (v : Byte) (s t : State) : Prop :=
  t.pc = s.pc + BitVec.ofNat 16 (memLength m) ∧ t.cycles = s.cycles + base ∧
  t.trace = s.trace ++ operandEvents (.mem m) s ++ writeEvents s.params (eaOf m s) v ∧
  t.draws = s.draws + (operandEvents (.mem m) s).length ∧
  StoresAt (eaOf m s) v s t ∧ KeepsBlock s t

/-- Frame of an instruction that makes no data access: PC by `len`, `cycles` by `cost`, the bus trace and memory as before. -/
def QuietFrame (len cost : Nat) (s t : State) : Prop :=
  t.pc = s.pc + BitVec.ofNat 16 len ∧ t.cycles = s.cycles + cost ∧ t.trace = s.trace ∧ t.draws = s.draws ∧
  KeepsMemory s t ∧ KeepsBlock s t

/-- R13 in numbers: N says `v >= 128`, Z says `v = 0`. -/
def nzOf (v : Byte) (f : Flags) : Flags := { f with n := decide (128 ≤ v.toNat), z := decide (v.toNat = 0) }

/-- R250 in numbers: the signed sum of two bytes and a carry. -/
def signedSum (a b : Byte) (c : Bool) : Int := a.toInt + b.toInt + c.toNat

/-- R254 in numbers: the unsigned difference `a - m - (1 - c)`. -/
def unsignedDiff (a m : Byte) (c : Bool) : Int := a.toNat - m.toNat - (1 - c.toNat)

/-- R254 in numbers: the signed difference `a - m - (1 - c)`. -/
def signedDiff (a m : Byte) (c : Bool) : Int := a.toInt - m.toInt - (1 - c.toNat)

/-- R251 in numbers: the flags of `Compare(r, m)`. -/
def compareFlags (r m : Byte) (f : Flags) : Flags :=
  { f with
    c := decide (m.toNat ≤ r.toNat)
    z := decide (r.toNat = m.toNat)
    n := decide (128 ≤ (r.toNat + 256 - m.toNat) % 256) }

/-- R250 in numbers: the flags of an addition of `a`, `b` and the carry `c`. -/
def addFlags (a b : Byte) (c : Bool) (f : Flags) : Flags :=
  let s := a.toNat + b.toNat + c.toNat
  { f with
    c := decide (256 ≤ s)
    v := decide (signedSum a b c < -128 ∨ 127 < signedSum a b c)
    n := decide (128 ≤ s % 256)
    z := decide (s % 256 = 0) }

/-- R254 in numbers: the flags of a subtraction of `m` and the borrow from `a`. -/
def subFlags (a m : Byte) (c : Bool) (f : Flags) : Flags :=
  let d := unsignedDiff a m c
  { f with
    c := decide (0 ≤ d)
    v := decide (signedDiff a m c < -128 ∨ 127 < signedDiff a m c)
    n := decide (128 ≤ d % 256)
    z := decide (d % 256 = 0) }

/-- R12: whether two addresses name one byte (a RAM byte and its mirrors, R71). -/
abbrev sameByte (p : Params) (a b : Addr) : Prop := region p a = region p b

/-- R12: the bytes of memory after `lo` and then `hi` have been pushed, high byte first. -/
def PushesWord (w : Addr) (s t : State) : Prop :=
  ∀ b, peek t b =
    if sameByte s.params b (stackAddr (s.sp - 1)) then some (lo w)
    else if sameByte s.params b (stackAddr s.sp) then some (hi w)
    else peek s b

/-- R484, R333: the bytes of memory after a return address and an image of P have been pushed. -/
def PushesEntry (ret : Addr) (image : Byte) (s t : State) : Prop :=
  ∀ b, peek t b =
    if sameByte s.params b (stackAddr (s.sp - 2)) then some image
    else if sameByte s.params b (stackAddr (s.sp - 1)) then some (lo ret)
    else if sameByte s.params b (stackAddr s.sp) then some (hi ret)
    else peek s b

/-- R12: the byte the stack holds `k` places above SP, in RAM. -/
def stackByte (s : State) (k : Nat) : Byte := Memory.read s.ram (256 + (s.sp.toNat + k) % 256)

/-- R150: read `n` bytes from `a` on through the bus, in address order. -/
def fetchBytes : Nat → Addr → State → List Byte × State
  | 0, _, s => ([], s)
  | n + 1, a, s =>
    let (b, s1) := read8 a s
    let (bs, s2) := fetchBytes n (a + 1) s1
    (b :: bs, s2)

/-- R152, R400: the base cycles of a row. -/
def baseCyclesOf (r : Row) (p : Params) : Nat :=
  match r.cycles with
  | .fixed n => n
  | .jamCycles => p.jamCycles

end Sys2Proof.Machine
end

