-- ==== Sys2Proof/Certificates/Slice0/Obligations.lean ====
section
/-!
DEFINITION. The obligations: what the spec's numbered rules say of this machine, stated for the provers. The lists of forms name, for each
mnemonic, every row of the opcode table with its operand and its base cycles; the frames and the results in numbers are those of
Safety.lean. A statement about a parameter holds for every value of it, and one about a free value for every value it may take.
-/

namespace Sys2Proof.Machine

/-- R201: the forms of LDA, with their operand and base cycles. -/
def ldaForms (v z : Byte) (w : Addr) : List (Instr × ReadOperand × Nat) :=
  [(.ldaIzx z, .mem (.izx z), 6), (.ldaZp z, .mem (.zp z), 3), (.ldaImm v, .imm v, 2), (.ldaAbs w, .mem (.abs w), 4),
   (.ldaIzy z, .mem (.izy z), 5), (.ldaZpx z, .mem (.zpx z), 4), (.ldaAbsy w, .mem (.absy w), 4),
   (.ldaAbsx w, .mem (.absx w), 4)]

/-- R202: the forms of LDX. -/
def ldxForms (v z : Byte) (w : Addr) : List (Instr × ReadOperand × Nat) :=
  [(.ldxImm v, .imm v, 2), (.ldxZp z, .mem (.zp z), 3), (.ldxAbs w, .mem (.abs w), 4), (.ldxZpy z, .mem (.zpy z), 4),
   (.ldxAbsy w, .mem (.absy w), 4)]

/-- R203: the forms of LDY. -/
def ldyForms (v z : Byte) (w : Addr) : List (Instr × ReadOperand × Nat) :=
  [(.ldyImm v, .imm v, 2), (.ldyZp z, .mem (.zp z), 3), (.ldyAbs w, .mem (.abs w), 4), (.ldyZpx z, .mem (.zpx z), 4),
   (.ldyAbsx w, .mem (.absx w), 4)]

/-- R376: the memory forms of LAX. -/
def laxForms (z : Byte) (w : Addr) : List (Instr × ReadOperand × Nat) :=
  [(.laxIzx z, .mem (.izx z), 6), (.laxZp z, .mem (.zp z), 3), (.laxAbs w, .mem (.abs w), 4),
   (.laxIzy z, .mem (.izy z), 5), (.laxZpy z, .mem (.zpy z), 4), (.laxAbsy w, .mem (.absy w), 4)]

/-- R204: the forms of STA. -/
def staForms (z : Byte) (w : Addr) : List (Instr × MemOperand × Nat) :=
  [(.staIzx z, .izx z, 6), (.staZp z, .zp z, 3), (.staAbs w, .abs w, 4), (.staIzy z, .izy z, 6),
   (.staZpx z, .zpx z, 4), (.staAbsy w, .absy w, 5), (.staAbsx w, .absx w, 5)]

/-- R205: the forms of STX. -/
def stxForms (z : Byte) (w : Addr) : List (Instr × MemOperand × Nat) :=
  [(.stxZp z, .zp z, 3), (.stxAbs w, .abs w, 4), (.stxZpy z, .zpy z, 4)]

/-- R206: the forms of STY. -/
def styForms (z : Byte) (w : Addr) : List (Instr × MemOperand × Nat) :=
  [(.styZp z, .zp z, 3), (.styAbs w, .abs w, 4), (.styZpx z, .zpx z, 4)]

/-- R375: the forms of SAX. -/
def saxForms (z : Byte) (w : Addr) : List (Instr × MemOperand × Nat) :=
  [(.saxIzx z, .izx z, 6), (.saxZp z, .zp z, 3), (.saxAbs w, .abs w, 4), (.saxZpy z, .zpy z, 4)]

/-- R253: the forms of ADC. -/
def adcForms (v z : Byte) (w : Addr) : List (Instr × ReadOperand × Nat) :=
  [(.adcIzx z, .mem (.izx z), 6), (.adcZp z, .mem (.zp z), 3), (.adcImm v, .imm v, 2), (.adcAbs w, .mem (.abs w), 4),
   (.adcIzy z, .mem (.izy z), 5), (.adcZpx z, .mem (.zpx z), 4), (.adcAbsy w, .mem (.absy w), 4),
   (.adcAbsx w, .mem (.absx w), 4)]

/-- R254, R390: the forms of SBC, $EB among them. -/
def sbcForms (v z : Byte) (w : Addr) : List (Instr × ReadOperand × Nat) :=
  [(.sbcIzx z, .mem (.izx z), 6), (.sbcZp z, .mem (.zp z), 3), (.sbcImmE9 v, .imm v, 2), (.sbcImmEB v, .imm v, 2),
   (.sbcAbs w, .mem (.abs w), 4), (.sbcIzy z, .mem (.izy z), 5), (.sbcZpx z, .mem (.zpx z), 4),
   (.sbcAbsy w, .mem (.absy w), 4), (.sbcAbsx w, .mem (.absx w), 4)]

/-- R255: the forms of AND. -/
def andForms (v z : Byte) (w : Addr) : List (Instr × ReadOperand × Nat) :=
  [(.andIzx z, .mem (.izx z), 6), (.andZp z, .mem (.zp z), 3), (.andImm v, .imm v, 2), (.andAbs w, .mem (.abs w), 4),
   (.andIzy z, .mem (.izy z), 5), (.andZpx z, .mem (.zpx z), 4), (.andAbsy w, .mem (.absy w), 4),
   (.andAbsx w, .mem (.absx w), 4)]

/-- R256: the forms of ORA. -/
def oraForms (v z : Byte) (w : Addr) : List (Instr × ReadOperand × Nat) :=
  [(.oraIzx z, .mem (.izx z), 6), (.oraZp z, .mem (.zp z), 3), (.oraImm v, .imm v, 2), (.oraAbs w, .mem (.abs w), 4),
   (.oraIzy z, .mem (.izy z), 5), (.oraZpx z, .mem (.zpx z), 4), (.oraAbsy w, .mem (.absy w), 4),
   (.oraAbsx w, .mem (.absx w), 4)]

/-- R257: the forms of EOR. -/
def eorForms (v z : Byte) (w : Addr) : List (Instr × ReadOperand × Nat) :=
  [(.eorIzx z, .mem (.izx z), 6), (.eorZp z, .mem (.zp z), 3), (.eorImm v, .imm v, 2), (.eorAbs w, .mem (.abs w), 4),
   (.eorIzy z, .mem (.izy z), 5), (.eorZpx z, .mem (.zpx z), 4), (.eorAbsy w, .mem (.absy w), 4),
   (.eorAbsx w, .mem (.absx w), 4)]

/-- R258: the forms of CMP. -/
def cmpForms (v z : Byte) (w : Addr) : List (Instr × ReadOperand × Nat) :=
  [(.cmpIzx z, .mem (.izx z), 6), (.cmpZp z, .mem (.zp z), 3), (.cmpImm v, .imm v, 2), (.cmpAbs w, .mem (.abs w), 4),
   (.cmpIzy z, .mem (.izy z), 5), (.cmpZpx z, .mem (.zpx z), 4), (.cmpAbsy w, .mem (.absy w), 4),
   (.cmpAbsx w, .mem (.absx w), 4)]

/-- R259: the forms of CPX. -/
def cpxForms (v z : Byte) (w : Addr) : List (Instr × ReadOperand × Nat) :=
  [(.cpxImm v, .imm v, 2), (.cpxZp z, .mem (.zp z), 3), (.cpxAbs w, .mem (.abs w), 4)]

/-- R260: the forms of CPY. -/
def cpyForms (v z : Byte) (w : Addr) : List (Instr × ReadOperand × Nat) :=
  [(.cpyImm v, .imm v, 2), (.cpyZp z, .mem (.zp z), 3), (.cpyAbs w, .mem (.abs w), 4)]

/-- R261: the forms of BIT. -/
def bitForms (z : Byte) (w : Addr) : List (Instr × ReadOperand × Nat) :=
  [(.bitZp z, .mem (.zp z), 3), (.bitAbs w, .mem (.abs w), 4)]

/-- R262: the forms of INC. -/
def incForms (z : Byte) (w : Addr) : List (Instr × MemOperand × Nat) :=
  [(.incZp z, .zp z, 5), (.incAbs w, .abs w, 6), (.incZpx z, .zpx z, 6), (.incAbsx w, .absx w, 7)]

/-- R263: the forms of DEC. -/
def decForms (z : Byte) (w : Addr) : List (Instr × MemOperand × Nat) :=
  [(.decZp z, .zp z, 5), (.decAbs w, .abs w, 6), (.decZpx z, .zpx z, 6), (.decAbsx w, .absx w, 7)]

/-- R301: the memory forms of ASL. -/
def aslForms (z : Byte) (w : Addr) : List (Instr × MemOperand × Nat) :=
  [(.aslZp z, .zp z, 5), (.aslAbs w, .abs w, 6), (.aslZpx z, .zpx z, 6), (.aslAbsx w, .absx w, 7)]

/-- R302: the memory forms of LSR. -/
def lsrForms (z : Byte) (w : Addr) : List (Instr × MemOperand × Nat) :=
  [(.lsrZp z, .zp z, 5), (.lsrAbs w, .abs w, 6), (.lsrZpx z, .zpx z, 6), (.lsrAbsx w, .absx w, 7)]

/-- R303: the memory forms of ROL. -/
def rolForms (z : Byte) (w : Addr) : List (Instr × MemOperand × Nat) :=
  [(.rolZp z, .zp z, 5), (.rolAbs w, .abs w, 6), (.rolZpx z, .zpx z, 6), (.rolAbsx w, .absx w, 7)]

/-- R304: the memory forms of ROR. -/
def rorForms (z : Byte) (w : Addr) : List (Instr × MemOperand × Nat) :=
  [(.rorZp z, .zp z, 5), (.rorAbs w, .abs w, 6), (.rorZpx z, .zpx z, 6), (.rorAbsx w, .absx w, 7)]

/-- R371: the forms of SLO. -/
def sloForms (z : Byte) (w : Addr) : List (Instr × MemOperand × Nat) :=
  [(.sloIzx z, .izx z, 8), (.sloZp z, .zp z, 5), (.sloAbs w, .abs w, 6), (.sloIzy z, .izy z, 8),
   (.sloZpx z, .zpx z, 6), (.sloAbsy w, .absy w, 7), (.sloAbsx w, .absx w, 7)]

/-- R372: the forms of RLA. -/
def rlaForms (z : Byte) (w : Addr) : List (Instr × MemOperand × Nat) :=
  [(.rlaIzx z, .izx z, 8), (.rlaZp z, .zp z, 5), (.rlaAbs w, .abs w, 6), (.rlaIzy z, .izy z, 8),
   (.rlaZpx z, .zpx z, 6), (.rlaAbsy w, .absy w, 7), (.rlaAbsx w, .absx w, 7)]

/-- R373: the forms of SRE. -/
def sreForms (z : Byte) (w : Addr) : List (Instr × MemOperand × Nat) :=
  [(.sreIzx z, .izx z, 8), (.sreZp z, .zp z, 5), (.sreAbs w, .abs w, 6), (.sreIzy z, .izy z, 8),
   (.sreZpx z, .zpx z, 6), (.sreAbsy w, .absy w, 7), (.sreAbsx w, .absx w, 7)]

/-- R374: the forms of RRA. -/
def rraForms (z : Byte) (w : Addr) : List (Instr × MemOperand × Nat) :=
  [(.rraIzx z, .izx z, 8), (.rraZp z, .zp z, 5), (.rraAbs w, .abs w, 6), (.rraIzy z, .izy z, 8),
   (.rraZpx z, .zpx z, 6), (.rraAbsy w, .absy w, 7), (.rraAbsx w, .absx w, 7)]

/-- R377: the forms of DCP. -/
def dcpForms (z : Byte) (w : Addr) : List (Instr × MemOperand × Nat) :=
  [(.dcpIzx z, .izx z, 8), (.dcpZp z, .zp z, 5), (.dcpAbs w, .abs w, 6), (.dcpIzy z, .izy z, 8),
   (.dcpZpx z, .zpx z, 6), (.dcpAbsy w, .absy w, 7), (.dcpAbsx w, .absx w, 7)]

/-- R378: the forms of ISB. -/
def isbForms (z : Byte) (w : Addr) : List (Instr × MemOperand × Nat) :=
  [(.isbIzx z, .izx z, 8), (.isbZp z, .zp z, 5), (.isbAbs w, .abs w, 6), (.isbIzy z, .izy z, 8),
   (.isbZpx z, .zpx z, 6), (.isbAbsy w, .absy w, 7), (.isbAbsx w, .absx w, 7)]

/-- R392 to R394: the undocumented NOPs that have an operand. -/
def nopForms (v z : Byte) (w : Addr) : List (Instr × ReadOperand × Nat) :=
  [(.nopZp04 z, .mem (.zp z), 3), (.nopAbs w, .mem (.abs w), 4), (.nopZpx14 z, .mem (.zpx z), 4),
   (.nopAbsx1C w, .mem (.absx w), 4), (.nopZpx34 z, .mem (.zpx z), 4), (.nopAbsx3C w, .mem (.absx w), 4),
   (.nopZp44 z, .mem (.zp z), 3), (.nopZpx54 z, .mem (.zpx z), 4), (.nopAbsx5C w, .mem (.absx w), 4),
   (.nopZp64 z, .mem (.zp z), 3), (.nopZpx74 z, .mem (.zpx z), 4), (.nopAbsx7C w, .mem (.absx w), 4),
   (.nopImm80 v, .imm v, 2), (.nopImm82 v, .imm v, 2), (.nopImm89 v, .imm v, 2), (.nopImmC2 v, .imm v, 2),
   (.nopZpxD4 z, .mem (.zpx z), 4), (.nopAbsxDC w, .mem (.absx w), 4), (.nopImmE2 v, .imm v, 2),
   (.nopZpxF4 z, .mem (.zpx z), 4), (.nopAbsxFC w, .mem (.absx w), 4)]

/-- R342, R391: the NOPs of one byte. -/
def nopOneByte : List Instr :=
  [.nopImpl1A, .nopImpl3A, .nopImpl5A, .nopImpl7A, .nopImplDA, .nopImplEA, .nopImplFA]

/-- R400: the JAM opcodes. -/
def jamInstrs : List Instr :=
  [.jam02, .jam12, .jam22, .jam32, .jam42, .jam52, .jam62, .jam72, .jam92, .jamB2, .jamD2, .jamF2]

/-- R321 to R328: the branches on the offset `o`, each with its condition on the flags. -/
def branchForms (o : Byte) (f : Flags) : List (Instr × Bool) :=
  [(.bpl o, !f.n), (.bmi o, f.n), (.bvc o, !f.v), (.bvs o, f.v), (.bcc o, !f.c), (.bcs o, f.c), (.bne o, !f.z), (.beq o, f.z)]

/-- R335 to R341: the flag instructions, each with the flags it leaves. -/
def flagForms (f : Flags) : List (Instr × Flags) :=
  [(.clc, { f with c := false }), (.sec, { f with c := true }), (.cli, { f with i := false }), (.sei, { f with i := true }),
   (.cld, { f with d := false }), (.sed, { f with d := true }), (.clv, { f with v := false })]

/-- R386 to R389: the high-byte stores: the operand, the address before indexing, the value `u`, SP afterwards, and the cycles. -/
def shForms (z : Byte) (w : Addr) (s : State) : List (Instr × MemOperand × Addr × Byte × Byte × Nat) :=
  [(.tasAbsy w, .absy w, w, s.a &&& s.x, s.a &&& s.x, 5), (.shxAbsy w, .absy w, w, s.x, s.sp, 5),
   (.shyAbsx w, .absx w, w, s.y, s.sp, 5), (.ahxIzy z, .izy z, (pointerAt z s).1, s.a &&& s.x, s.sp, 6),
   (.ahxAbsy w, .absy w, w, s.a &&& s.x, s.sp, 5)]

/-- R300 in numbers: ASL of a byte, the result and the carry out. -/
def aslOut (m : Byte) : Byte × Bool := (BitVec.ofNat 8 (2 * m.toNat), decide (128 ≤ m.toNat))

/-- R300 in numbers: LSR of a byte. -/
def lsrOut (m : Byte) : Byte × Bool := (BitVec.ofNat 8 (m.toNat / 2), decide (m.toNat % 2 = 1))

/-- R300 in numbers: ROL of a byte and the carry in. -/
def rolOut (m : Byte) (c : Bool) : Byte × Bool := (BitVec.ofNat 8 (2 * m.toNat + c.toNat), decide (128 ≤ m.toNat))

/-- R300 in numbers: ROR of a byte and the carry in. -/
def rorOut (m : Byte) (c : Bool) : Byte × Bool := (BitVec.ofNat 8 (m.toNat / 2 + 128 * c.toNat), decide (m.toNat % 2 = 1))

/-- R301 to R304: the accumulator forms, with the result and the carry out. -/
def accForms (s : State) : List (Instr × Byte × Bool) :=
  [(.aslAcc, aslOut s.a), (.lsrAcc, lsrOut s.a), (.rolAcc, rolOut s.a s.flags.c), (.rorAcc, rorOut s.a s.flags.c)]

/-- The opcodes of a list of forms. -/
def opcodesOf {α : Type} (fs : List (Instr × α)) : List Byte := fs.map (fun f => f.1.opcode)

/-- R381 in numbers: the result of ARR on `t = A AND M`. -/
def arrOut (t : Byte) (c : Bool) : Byte := BitVec.ofNat 8 (t.toNat / 2 + 128 * c.toNat)

/-- N frames of samples due: the sum of `N` calls of `frame_due_samples()` and the state after them. -/
def dueOver : Nat → State → Nat × State
  | 0, s => (0, s)
  | n + 1, s => ((frameDueSamples s).1 + (dueOver n (frameDueSamples s).2).1, (dueOver n (frameDueSamples s).2).2)

/-- R435: the bytes of `n` converted samples of a buffer, sample after sample. -/
def convertedBytes (o : ByteOrder) (buf : List Byte) (n : Nat) : List Byte :=
  (buf.take n).flatMap (fun u => [(sampleBytes o (convertSample u)).1, (sampleBytes o (convertSample u)).2])

/-- R252: the state with the flag D the other way. -/
def flipD (s : State) : State := { s with p := s.p ^^^ 0x08 }

/-- R532: the byte of RAM index `i` right after a successful `init_song`: the trap, the pushed trap address, and 0 elsewhere. -/
def launchRam (trap : Byte) (i : Nat) : Byte :=
  if i = trap.toNat then 0xEA
  else if i = trap.toNat + 1 then 0x4C
  else if i = trap.toNat + 2 then trap
  else if i = 0x1FC then trap
  else 0x00

/-- R532: the trap's four bytes stand in RAM. -/
def TrapIntact (s : State) : Prop :=
  s.params.trapAddr ≤ 0xFC ∧ Memory.read s.ram s.params.trapAddr.toNat = 0xEA ∧
  Memory.read s.ram (s.params.trapAddr.toNat + 1) = 0x4C ∧
  Memory.read s.ram (s.params.trapAddr.toNat + 2) = s.params.trapAddr ∧
  Memory.read s.ram (s.params.trapAddr.toNat + 3) = 0x00

end Sys2Proof.Machine

section

open Sys2Proof Sys2Proof.Machine

/-- R120 to R125: decoding the bytes of an instruction gives it back, every operand at every value, with the bytes after it. -/
def Obligations.EncodeThenDecodeGivesTheInstruction : Prop :=
  ∀ (i : Instr) (rest : List Byte), i.wellFormed = true ∧ decode (encode i ++ rest) = .ok (i, rest)

/-- R120, R123: bytes that decode to an instruction are its encoding: no two byte strings are one instruction. -/
def Obligations.DecodedBytesAreTheEncoding : Prop :=
  ∀ (bs : List Byte) (i : Instr) (rest : List Byte), decode bs = .ok (i, rest) → bs = encode i ++ rest

/-- R125, R151: every opcode byte decodes, to an instruction of its own row; its row has that opcode and obeys the table's rules. -/
def Obligations.EveryOpcodeSelectsOneRow : Prop :=
  ∀ op b1 b2 : Byte, ∃ i : Instr,
    decode [op, b1, b2] = .ok (i, [op, b1, b2].drop (rowOf op).length) ∧ i.opcode = op ∧ i.row = rowOf op ∧
    (rowOf op).opcode = op ∧ (rowOf op).wellFormed = true

/-- R121 to R124: words written out from the encodings of the spec's own examples decode to the instructions they stand for. -/
def Obligations.WordsOfTheSpecDecode : Prop :=
  decodeTableWord 16 0x42A9 = some (.ldaImm 0x42) ∧ decodeTableWord 16 0x0085 = some (.staZp 0x00) ∧
  decodeTableWord 8 0x00 = some .brk ∧ decodeTableWord 24 0x80F0BD = some (.ldaAbsx 0x80F0) ∧
  decodeTableWord 24 0x10FF6C = some (.jmpInd 0x10FF) ∧ decodeTableWord 16 0xFED0 = some (.bne 0xFE) ∧
  decodeTableWord 8 0x02 = some .jam02 ∧ decodeTableWord 8 0x4A = some .lsrAcc ∧
  decodeTableWord 16 0x40D3 = some (.dcpIzy 0x40) ∧ decodeTableWord 16 0x01EB = some (.sbcImmEB 0x01)

/-- R150, R88: a step of a CPU that is not jammed reads the opcode and operand bytes at PC through the bus, in address order, and
is exec of the instruction they decode to at the state after those reads; where the encoding of an instruction stands in memory at PC,
the step is exec of it at that very state. PC is advanced by exec. -/
def Obligations.StepRunsTheInstructionAtPC : Prop :=
  (∀ s : State, s.jammed = false → ∃ i : Instr,
    decode (fetchBytes (rowOf (read8 s.pc s).1).length s.pc s).1 = .ok (i, []) ∧ i.wellFormed = true ∧
    step s = exec i (fetchBytes (rowOf (read8 s.pc s).1).length s.pc s).2) ∧
  (∀ (s : State) (i : Instr), s.jammed = false →
    (∀ k, k < (encode i).length → peek s (s.pc + BitVec.ofNat 16 k) = (encode i)[k]?) → step s = exec i s)

/-- R156, R481, D7: while jammed, `step()`, `nmi()` and `irq()` do nothing and `run()` returns 0 elapsed. -/
def Obligations.JammedCpuStandsStill : Prop :=
  ∀ s : State, s.jammed = true → step s = .next s ∧ nmi s = s ∧ irq s = s ∧ ∀ n, run n s = (0, s)

/-- R71, R87: below $2000 a read gives the last byte written to the same RAM byte, at any of its four mirrors, and neither access is
an event. -/
def Obligations.RamReadsTheLastWrite : Prop :=
  ∀ (s : State) (a b : Addr) (v : Byte), a < 0x2000 → b < 0x2000 →
    read8 b (write8 a v s) = (if b.toNat % 2048 = a.toNat % 2048 then v else (read8 b s).1, write8 a v s) ∧
    (write8 a v s).trace = s.trace ∧ (write8 a v s).params = s.params

/-- R72, R74 to R77: the PPU range reads 0; above it and outside the register window the image's bytes are read and everything else
reads 0; every write is dropped, and no access changes the state or is an event. -/
def Obligations.AccessesOutsideRamAndWindow : Prop :=
  ∀ (s : State) (a : Addr) (v : Byte),
    (0x2000 ≤ a ∧ a ≤ 0x3FFF → read8 a s = (0x00, s) ∧ write8 a v s = s) ∧
    (0x4000 ≤ a ∧ ¬(s.params.regLo ≤ a ∧ a ≤ s.params.regHi) →
      write8 a v s = s ∧
      read8 a s =
        (if s.params.file.loadAddr.toNat ≤ a.toNat ∧ a.toNat < s.params.file.loadAddr.toNat + s.params.file.imageLen then
          Memory.read s.params.file.image (a.toNat - s.params.file.loadAddr.toNat)
        else 0x00, s))

/-- R73, R79: in the register window a write appends `Wr(a, v)` and a read appends `Rd(a, u)` of the byte it answers; nothing else
changes but the model's draw counter (log entry 6). -/
def Obligations.RegisterWindowAccessesAreEvents : Prop :=
  ∀ (s : State) (a : Addr) (v : Byte), 0x4000 ≤ a → s.params.regLo ≤ a → a ≤ s.params.regHi →
    write8 a v s = { s with trace := s.trace ++ [.wr a v] } ∧
    ∃ u : Byte, read8 a s = (u, { s with trace := s.trace ++ [.rd a u], draws := s.draws + 1 })

/-- R163 to R168: the effective addresses: zero-page sums wrap in page zero, absolute sums wrap mod 2^16, and only the latter can cross a
page. -/
def Obligations.IndexedAddressesWrap : Prop :=
  ∀ (s : State) (z : Byte) (w : Addr),
    (eaOf (.zp z) s).toNat = z.toNat ∧ (eaOf (.zpx z) s).toNat = (z.toNat + s.x.toNat) % 256 ∧
    (eaOf (.zpy z) s).toNat = (z.toNat + s.y.toNat) % 256 ∧ eaOf (.abs w) s = w ∧
    (eaOf (.absx w) s).toNat = (w.toNat + s.x.toNat) % 65536 ∧ (eaOf (.absy w) s).toNat = (w.toNat + s.y.toNat) % 65536 ∧
    (resolve (.zp z) s).1.crossed = false ∧ (resolve (.zpx z) s).1.crossed = false ∧
    (resolve (.zpy z) s).1.crossed = false ∧ (resolve (.abs w) s).1.crossed = false ∧
    (resolve (.absx w) s).1.crossed = decide (w.toNat / 256 ≠ (w.toNat + s.x.toNat) % 65536 / 256) ∧
    (resolve (.absy w) s).1.crossed = decide (w.toNat / 256 ≠ (w.toNat + s.y.toNat) % 65536 / 256)

/-- R170, R171, R80: both pointer bytes come from page zero, low byte first, the high byte of a pointer at $FF from $00; resolving any
memory operand changes nothing. -/
def Obligations.PointersAreReadFromPageZero : Prop :=
  ∀ (s : State) (z : Byte) (m : MemOperand),
    let at0 : Nat → Byte := fun k => Memory.read s.ram (k % 256)
    let ptr : Nat := (at0 z.toNat).toNat + 256 * (at0 (z.toNat + 1)).toNat
    (eaOf (.izx z) s).toNat = (at0 (z.toNat + s.x.toNat)).toNat + 256 * (at0 (z.toNat + s.x.toNat + 1)).toNat ∧
    (resolve (.izx z) s).1.crossed = false ∧ (eaOf (.izy z) s).toNat = (ptr + s.y.toNat) % 65536 ∧
    (resolve (.izy z) s).1.crossed = decide (ptr / 256 ≠ (ptr + s.y.toNat) % 65536 / 256) ∧ (resolve m s).2 = s

/-- R162, R173, R83: an immediate operand is the byte itself with no access; a memory operand is one bus read of EA, which outside the
register window gives the byte of memory there and changes nothing. -/
def Obligations.OperandIsReadOnce : Prop :=
  ∀ (s : State) (v : Byte) (m : MemOperand),
    readOperand (.imm v) s = { byte := v, penalty := 0, after := s } ∧
    (readOperand (.mem m) s).byte = (read8 (eaOf m s) s).1 ∧ (readOperand (.mem m) s).after = (read8 (eaOf m s) s).2 ∧
    (readOperand (.mem m) s).penalty = crossPenalty (.mem m) s ∧
    ∀ b, peek s (eaOf m s) = some b → (readOperand (.mem m) s).byte = b ∧ (readOperand (.mem m) s).after = s

/-- R250: the adder's result and carry are those of the unsigned sum, and `ovf` is set exactly when the signed sum lies outside
[-128, 127]. -/
def Obligations.AdderAgreesWithTheIntegers : Prop :=
  ∀ (a b : Byte) (c : Bool),
    (addResult a b c).toNat = (a.toNat + b.toNat + c.toNat) % 256 ∧
    addCarry a b c = decide (256 ≤ a.toNat + b.toNat + c.toNat) ∧
    addOverflow a b c = decide ((a ^^^ addResult a b c) &&& (b ^^^ addResult a b c) &&& 0x80 ≠ 0) ∧
    addOverflow a b c = decide (signedSum a b c < -128 ∨ 127 < signedSum a b c)

/-- R201, R202, R203, R376: LDA, LDX, LDY and LAX complete in every form: the register takes M, N and Z follow M, and nothing else
changes but PC, the cycles and the events of the read. -/
def Obligations.LoadsPutTheByteInTheRegister : Prop :=
  ∀ (s : State) (v z : Byte) (w : Addr),
    opcodesOf (ldaForms v z w) = [0xA1, 0xA5, 0xA9, 0xAD, 0xB1, 0xB5, 0xB9, 0xBD] ∧
    (∀ f ∈ ldaForms v z w, ∃ t, exec f.1 s = .next t ∧ ReadFrame f.2.2 f.2.1 s t ∧
      t.regs = (byteOf f.2.1 s, s.x, s.y, s.sp) ∧ t.p = packFlags (nzOf (byteOf f.2.1 s) s.flags)) ∧
    opcodesOf (ldxForms v z w) = [0xA2, 0xA6, 0xAE, 0xB6, 0xBE] ∧
    (∀ f ∈ ldxForms v z w, ∃ t, exec f.1 s = .next t ∧ ReadFrame f.2.2 f.2.1 s t ∧
      t.regs = (s.a, byteOf f.2.1 s, s.y, s.sp) ∧ t.p = packFlags (nzOf (byteOf f.2.1 s) s.flags)) ∧
    opcodesOf (ldyForms v z w) = [0xA0, 0xA4, 0xAC, 0xB4, 0xBC] ∧
    (∀ f ∈ ldyForms v z w, ∃ t, exec f.1 s = .next t ∧ ReadFrame f.2.2 f.2.1 s t ∧
      t.regs = (s.a, s.x, byteOf f.2.1 s, s.sp) ∧ t.p = packFlags (nzOf (byteOf f.2.1 s) s.flags)) ∧
    opcodesOf (laxForms z w) = [0xA3, 0xA7, 0xAF, 0xB3, 0xB7, 0xBF] ∧
    (∀ f ∈ laxForms z w, ∃ t, exec f.1 s = .next t ∧ ReadFrame f.2.2 f.2.1 s t ∧
      t.regs = (byteOf f.2.1 s, byteOf f.2.1 s, s.y, s.sp) ∧ t.p = packFlags (nzOf (byteOf f.2.1 s) s.flags))

/-- R204, R205, R206, R375: STA, STX, STY and SAX complete in every form: one write of the register to EA (dropped where EA is no RAM, an
event in the register window), no read, no flag, no register. -/
def Obligations.StoresWriteOneByte : Prop :=
  ∀ (s : State) (z : Byte) (w : Addr),
    opcodesOf (staForms z w) = [0x81, 0x85, 0x8D, 0x91, 0x95, 0x99, 0x9D] ∧
    (∀ f ∈ staForms z w, ∃ t, exec f.1 s = .next t ∧ StoreFrame f.2.2 f.2.1 s.a s t ∧ t.regs = s.regs ∧ t.p = s.p) ∧
    opcodesOf (stxForms z w) = [0x86, 0x8E, 0x96] ∧
    (∀ f ∈ stxForms z w, ∃ t, exec f.1 s = .next t ∧ StoreFrame f.2.2 f.2.1 s.x s t ∧ t.regs = s.regs ∧ t.p = s.p) ∧
    opcodesOf (styForms z w) = [0x84, 0x8C, 0x94] ∧
    (∀ f ∈ styForms z w, ∃ t, exec f.1 s = .next t ∧ StoreFrame f.2.2 f.2.1 s.y s t ∧ t.regs = s.regs ∧ t.p = s.p) ∧
    opcodesOf (saxForms z w) = [0x83, 0x87, 0x8F, 0x97] ∧
    (∀ f ∈ saxForms z w, ∃ t, exec f.1 s = .next t ∧ StoreFrame f.2.2 f.2.1 (s.a &&& s.x) s t ∧ t.regs = s.regs ∧
      t.p = s.p)

/-- R207 to R212: the transfers complete, copy one register and set N and Z from it; TXS writes no flag. -/
def Obligations.TransfersCopyOneRegister : Prop :=
  ∀ s : State,
    [Instr.tax, Instr.tay, Instr.txa, Instr.tya, Instr.tsx, Instr.txs].map Instr.opcode =
      [0xAA, 0xA8, 0x8A, 0x98, 0xBA, 0x9A] ∧
    (∃ t, exec .tax s = .next t ∧ QuietFrame 1 2 s t ∧ t.regs = (s.a, s.a, s.y, s.sp) ∧ t.p = packFlags (nzOf s.a s.flags)) ∧
    (∃ t, exec .tay s = .next t ∧ QuietFrame 1 2 s t ∧ t.regs = (s.a, s.x, s.a, s.sp) ∧ t.p = packFlags (nzOf s.a s.flags)) ∧
    (∃ t, exec .txa s = .next t ∧ QuietFrame 1 2 s t ∧ t.regs = (s.x, s.x, s.y, s.sp) ∧ t.p = packFlags (nzOf s.x s.flags)) ∧
    (∃ t, exec .tya s = .next t ∧ QuietFrame 1 2 s t ∧ t.regs = (s.y, s.x, s.y, s.sp) ∧ t.p = packFlags (nzOf s.y s.flags)) ∧
    (∃ t, exec .tsx s = .next t ∧ QuietFrame 1 2 s t ∧ t.regs = (s.a, s.sp, s.y, s.sp) ∧ t.p = packFlags (nzOf s.sp s.flags)) ∧
    (∃ t, exec .txs s = .next t ∧ QuietFrame 1 2 s t ∧ t.regs = (s.a, s.x, s.y, s.x) ∧ t.p = s.p)

/-- R230, R231: PHA and PHP complete: the byte at $0100 + SP takes A, or P with B and R set; SP goes down by one mod 256; no flag changes. -/
def Obligations.PushesWriteTheStackByte : Prop :=
  ∀ s : State,
    [Instr.pha, Instr.php].map Instr.opcode =
      [0x48, 0x08] ∧
    (∃ t, exec .pha s = .next t ∧ t.regs = (s.a, s.x, s.y, s.sp - 1) ∧ t.p = s.p ∧ t.pc = s.pc + 1 ∧
      t.cycles = s.cycles + 3 ∧ t.trace = s.trace ∧ t.draws = s.draws ∧ StoresAt (stackAddr s.sp) s.a s t ∧ KeepsBlock s t) ∧
    (∃ t, exec .php s = .next t ∧ t.regs = (s.a, s.x, s.y, s.sp - 1) ∧ t.p = s.p ∧ t.pc = s.pc + 1 ∧
      t.cycles = s.cycles + 3 ∧ t.trace = s.trace ∧ t.draws = s.draws ∧ StoresAt (stackAddr s.sp) (s.p ||| 0x30) s t ∧
      KeepsBlock s t)

/-- R232, R233: PLA and PLP complete: SP goes up by one mod 256 and the stack byte there is pulled, into A with N and Z, or into P with B
discarded and R set. -/
def Obligations.PullsReadTheStackByte : Prop :=
  ∀ s : State,
    [Instr.pla, Instr.plp].map Instr.opcode =
      [0x68, 0x28] ∧
    (∃ t, exec .pla s = .next t ∧ QuietFrame 1 4 s t ∧ t.regs = (stackByte s 1, s.x, s.y, s.sp + 1) ∧
      t.p = packFlags (nzOf (stackByte s 1) s.flags)) ∧
    (∃ t, exec .plp s = .next t ∧ QuietFrame 1 4 s t ∧ t.regs = (s.a, s.x, s.y, s.sp + 1) ∧
      t.p = (stackByte s 1 &&& 0xCF) ||| 0x20)

/-- R253, R252: ADC completes in every form: A takes A + M + C mod 256, C the carry of the unsigned sum, V that the signed sum is out of
range, N and Z the result, whatever D is. -/
def Obligations.AddWithCarryAddsBinary : Prop :=
  ∀ (s : State) (v z : Byte) (w : Addr),
    opcodesOf (adcForms v z w) = [0x61, 0x65, 0x69, 0x6D, 0x71, 0x75, 0x79, 0x7D] ∧
    ∀ f ∈ adcForms v z w, ∃ t, exec f.1 s = .next t ∧ ReadFrame f.2.2 f.2.1 s t ∧
      t.regs = (BitVec.ofNat 8 (s.a.toNat + (byteOf f.2.1 s).toNat + s.flags.c.toNat), s.x, s.y, s.sp) ∧
      t.p = packFlags (addFlags s.a (byteOf f.2.1 s) s.flags.c s.flags)

/-- R254, R390, R252: SBC completes in every form, $EB too: A takes A - M - (1 - C) mod 256, C says that the unsigned difference did not go
below 0, V that the signed one is out of range, N and Z the result, whatever D is. -/
def Obligations.SubtractWithBorrowSubtractsBinary : Prop :=
  ∀ (s : State) (v z : Byte) (w : Addr),
    opcodesOf (sbcForms v z w) = [0xE1, 0xE5, 0xE9, 0xEB, 0xED, 0xF1, 0xF5, 0xF9, 0xFD] ∧
    ∀ f ∈ sbcForms v z w, ∃ t, exec f.1 s = .next t ∧ ReadFrame f.2.2 f.2.1 s t ∧
      t.regs = (BitVec.ofInt 8 (unsignedDiff s.a (byteOf f.2.1 s) s.flags.c), s.x, s.y, s.sp) ∧
      t.p = packFlags (subFlags s.a (byteOf f.2.1 s) s.flags.c s.flags)

/-- R255, R256, R257: AND, ORA and EOR complete in every form: A takes the bitwise result and N and Z follow it. -/
def Obligations.LogicCombinesBitwise : Prop :=
  ∀ (s : State) (v z : Byte) (w : Addr),
    opcodesOf (andForms v z w) = [0x21, 0x25, 0x29, 0x2D, 0x31, 0x35, 0x39, 0x3D] ∧
    (∀ f ∈ andForms v z w, ∃ t, exec f.1 s = .next t ∧ ReadFrame f.2.2 f.2.1 s t ∧
      t.regs = (s.a &&& byteOf f.2.1 s, s.x, s.y, s.sp) ∧ t.p = packFlags (nzOf (s.a &&& byteOf f.2.1 s) s.flags)) ∧
    opcodesOf (oraForms v z w) = [0x01, 0x05, 0x09, 0x0D, 0x11, 0x15, 0x19, 0x1D] ∧
    (∀ f ∈ oraForms v z w, ∃ t, exec f.1 s = .next t ∧ ReadFrame f.2.2 f.2.1 s t ∧
      t.regs = (s.a ||| byteOf f.2.1 s, s.x, s.y, s.sp) ∧ t.p = packFlags (nzOf (s.a ||| byteOf f.2.1 s) s.flags)) ∧
    opcodesOf (eorForms v z w) = [0x41, 0x45, 0x49, 0x4D, 0x51, 0x55, 0x59, 0x5D] ∧
    (∀ f ∈ eorForms v z w, ∃ t, exec f.1 s = .next t ∧ ReadFrame f.2.2 f.2.1 s t ∧
      t.regs = (s.a ^^^ byteOf f.2.1 s, s.x, s.y, s.sp) ∧ t.p = packFlags (nzOf (s.a ^^^ byteOf f.2.1 s) s.flags))

/-- R251, R258, R259, R260, R261: CMP, CPX, CPY and BIT complete in every form and change flags only: the compares C by the unsigned order,
Z by equality, N by bit 7 of the difference; BIT Z by A AND M, N and V by bits 7 and 6 of M. -/
def Obligations.ComparesSetFlagsOnly : Prop :=
  ∀ (s : State) (v z : Byte) (w : Addr),
    opcodesOf (cmpForms v z w) = [0xC1, 0xC5, 0xC9, 0xCD, 0xD1, 0xD5, 0xD9, 0xDD] ∧
    (∀ f ∈ cmpForms v z w, ∃ t, exec f.1 s = .next t ∧ ReadFrame f.2.2 f.2.1 s t ∧ t.regs = s.regs ∧
      t.p = packFlags (compareFlags s.a (byteOf f.2.1 s) s.flags)) ∧
    opcodesOf (cpxForms v z w) = [0xE0, 0xE4, 0xEC] ∧
    (∀ f ∈ cpxForms v z w, ∃ t, exec f.1 s = .next t ∧ ReadFrame f.2.2 f.2.1 s t ∧ t.regs = s.regs ∧
      t.p = packFlags (compareFlags s.x (byteOf f.2.1 s) s.flags)) ∧
    opcodesOf (cpyForms v z w) = [0xC0, 0xC4, 0xCC] ∧
    (∀ f ∈ cpyForms v z w, ∃ t, exec f.1 s = .next t ∧ ReadFrame f.2.2 f.2.1 s t ∧ t.regs = s.regs ∧
      t.p = packFlags (compareFlags s.y (byteOf f.2.1 s) s.flags)) ∧
    opcodesOf (bitForms z w) = [0x24, 0x2C] ∧
    (∀ f ∈ bitForms z w, ∃ t, exec f.1 s = .next t ∧ ReadFrame f.2.2 f.2.1 s t ∧ t.regs = s.regs ∧
      t.p = packFlags
        { s.flags with
          z := decide ((s.a &&& byteOf f.2.1 s).toNat = 0)
          n := decide (128 ≤ (byteOf f.2.1 s).toNat)
          v := decide ((byteOf f.2.1 s).toNat / 64 % 2 = 1) })

/-- R262, R263, R547: INC and DEC complete in every form: one read of EA and one write of the byte plus or minus one mod 256 there, N and Z
from it, C and V as before. -/
def Obligations.IncrementAndDecrementMemory : Prop :=
  ∀ (s : State) (z : Byte) (w : Addr),
    opcodesOf (incForms z w) = [0xE6, 0xEE, 0xF6, 0xFE] ∧
    (∀ f ∈ incForms z w, ∃ t, exec f.1 s = .next t ∧ t.regs = s.regs ∧
      RmwFrame f.2.2 f.2.1 (BitVec.ofNat 8 ((byteOf (.mem f.2.1) s).toNat + 1)) s t ∧
      t.p = packFlags (nzOf (BitVec.ofNat 8 ((byteOf (.mem f.2.1) s).toNat + 1)) s.flags)) ∧
    opcodesOf (decForms z w) = [0xC6, 0xCE, 0xD6, 0xDE] ∧
    (∀ f ∈ decForms z w, ∃ t, exec f.1 s = .next t ∧ t.regs = s.regs ∧
      RmwFrame f.2.2 f.2.1 (BitVec.ofNat 8 ((byteOf (.mem f.2.1) s).toNat + 255)) s t ∧
      t.p = packFlags (nzOf (BitVec.ofNat 8 ((byteOf (.mem f.2.1) s).toNat + 255)) s.flags))

/-- R264 to R267: INX, INY, DEX and DEY complete: the register goes up or down by one mod 256, N and Z follow it. -/
def Obligations.IncrementAndDecrementRegisters : Prop :=
  ∀ s : State,
    [Instr.inx, Instr.iny, Instr.dex, Instr.dey].map Instr.opcode =
      [0xE8, 0xC8, 0xCA, 0x88] ∧
    (∃ t, exec .inx s = .next t ∧ QuietFrame 1 2 s t ∧ t.regs = (s.a, BitVec.ofNat 8 (s.x.toNat + 1), s.y, s.sp) ∧
      t.p = packFlags (nzOf (BitVec.ofNat 8 (s.x.toNat + 1)) s.flags)) ∧
    (∃ t, exec .iny s = .next t ∧ QuietFrame 1 2 s t ∧ t.regs = (s.a, s.x, BitVec.ofNat 8 (s.y.toNat + 1), s.sp) ∧
      t.p = packFlags (nzOf (BitVec.ofNat 8 (s.y.toNat + 1)) s.flags)) ∧
    (∃ t, exec .dex s = .next t ∧ QuietFrame 1 2 s t ∧ t.regs = (s.a, BitVec.ofNat 8 (s.x.toNat + 255), s.y, s.sp) ∧
      t.p = packFlags (nzOf (BitVec.ofNat 8 (s.x.toNat + 255)) s.flags)) ∧
    (∃ t, exec .dey s = .next t ∧ QuietFrame 1 2 s t ∧ t.regs = (s.a, s.x, BitVec.ofNat 8 (s.y.toNat + 255), s.sp) ∧
      t.p = packFlags (nzOf (BitVec.ofNat 8 (s.y.toNat + 255)) s.flags))

/-- R300 to R304: ASL, LSR, ROL and ROR complete in every form: A, or the byte at EA after one read and with one write, moves one bit, the old
C entering a rotate; C takes the bit shifted out, N and Z the result. -/
def Obligations.ShiftsMoveOneBit : Prop :=
  ∀ (s : State) (z : Byte) (w : Addr),
    opcodesOf (accForms s) = [0x0A, 0x4A, 0x2A, 0x6A] ∧
    (∀ f ∈ accForms s, ∃ t, exec f.1 s = .next t ∧ QuietFrame 1 2 s t ∧ t.regs = (f.2.1, s.x, s.y, s.sp) ∧
      t.p = packFlags { nzOf f.2.1 s.flags with c := f.2.2 }) ∧
    opcodesOf (aslForms z w) = [0x06, 0x0E, 0x16, 0x1E] ∧
    (∀ f ∈ aslForms z w, ∃ t, exec f.1 s = .next t ∧ t.regs = s.regs ∧
      RmwFrame f.2.2 f.2.1 (aslOut (byteOf (.mem f.2.1) s)).1 s t ∧
      t.p = packFlags { nzOf (aslOut (byteOf (.mem f.2.1) s)).1 s.flags with c := (aslOut (byteOf (.mem f.2.1) s)).2 }) ∧
    opcodesOf (lsrForms z w) = [0x46, 0x4E, 0x56, 0x5E] ∧
    (∀ f ∈ lsrForms z w, ∃ t, exec f.1 s = .next t ∧ t.regs = s.regs ∧
      RmwFrame f.2.2 f.2.1 (lsrOut (byteOf (.mem f.2.1) s)).1 s t ∧
      t.p = packFlags { nzOf (lsrOut (byteOf (.mem f.2.1) s)).1 s.flags with c := (lsrOut (byteOf (.mem f.2.1) s)).2 }) ∧
    opcodesOf (rolForms z w) = [0x26, 0x2E, 0x36, 0x3E] ∧
    (∀ f ∈ rolForms z w, ∃ t, exec f.1 s = .next t ∧ t.regs = s.regs ∧
      RmwFrame f.2.2 f.2.1 (rolOut (byteOf (.mem f.2.1) s) s.flags.c).1 s t ∧
      t.p = packFlags { nzOf (rolOut (byteOf (.mem f.2.1) s) s.flags.c).1 s.flags with
        c := (rolOut (byteOf (.mem f.2.1) s) s.flags.c).2 }) ∧
    opcodesOf (rorForms z w) = [0x66, 0x6E, 0x76, 0x7E] ∧
    (∀ f ∈ rorForms z w, ∃ t, exec f.1 s = .next t ∧ t.regs = s.regs ∧
      RmwFrame f.2.2 f.2.1 (rorOut (byteOf (.mem f.2.1) s) s.flags.c).1 s t ∧
      t.p = packFlags { nzOf (rorOut (byteOf (.mem f.2.1) s) s.flags.c).1 s.flags with
        c := (rorOut (byteOf (.mem f.2.1) s) s.flags.c).2 })

/-- R172, R320 to R328: each branch completes, taken or not: PC is the next instruction plus the signed offset mod 2^16, or the next
instruction; 2 cycles, 3 taken, 4 taken to another page; nothing else changes. -/
def Obligations.BranchesTakeTheirTarget : Prop :=
  ∀ (s : State) (o : Byte), opcodesOf (branchForms o s.flags) = [0x10, 0x30, 0x50, 0x70, 0x90, 0xB0, 0xD0, 0xF0] ∧
    ∀ f ∈ branchForms o s.flags, ∃ t, exec f.1 s = .next t ∧ t.regs = s.regs ∧ t.p = s.p ∧
    t.trace = s.trace ∧ t.draws = s.draws ∧ KeepsMemory s t ∧ KeepsBlock s t ∧
    let next : Nat := (s.pc.toNat + 2) % 65536
    let target : Nat := (((next : Int) + o.toInt) % 65536).toNat
    t.pc.toNat = (if f.2 then target else next) ∧
    t.cycles = s.cycles + (if f.2 then (if next / 256 = target / 256 then 3 else 4) else 2)

/-- R329, R330, R541: JMP completes in both forms: to the operand, or to the word whose low byte is at the pointer and whose high byte is at
the next address of the same page (the page-end bug), low byte read first. -/
def Obligations.JumpsGoToTheirTarget : Prop :=
  ∀ (s : State) (w : Addr),
    [Instr.jmpAbs w, Instr.jmpInd w].map Instr.opcode = [0x4C, 0x6C] ∧
    let w2 : Addr := BitVec.ofNat 16 (w.toNat / 256 * 256 + (w.toNat + 1) % 256)
    (∃ t, exec (.jmpAbs w) s = .next t ∧ t.pc = w ∧ t.cycles = s.cycles + 3 ∧ t.regs = s.regs ∧ t.p = s.p ∧
      t.trace = s.trace ∧ t.draws = s.draws ∧ KeepsMemory s t ∧ KeepsBlock s t) ∧
    (∃ t, exec (.jmpInd w) s = .next t ∧ t.pc = wordOf (read8 w s).1 (read8 w2 (read8 w s).2).1 ∧
      t.cycles = s.cycles + 5 ∧ t.regs = s.regs ∧ t.p = s.p ∧ t.trace = (read8 w2 (read8 w s).2).2.trace ∧
      t.draws = (read8 w2 (read8 w s).2).2.draws ∧ KeepsMemory s t ∧ KeepsBlock s t)

/-- R331, R332: JSR completes: the address of its last byte is pushed, high byte first, and PC is the operand; RTS completes: PC is the word
pulled plus one. -/
def Obligations.CallPushesAndReturnPulls : Prop :=
  ∀ (s : State) (w : Addr),
    [Instr.jsrAbs w, Instr.rts].map Instr.opcode = [0x20, 0x60] ∧
    (∃ t, exec (.jsrAbs w) s = .next t ∧ t.pc = w ∧ t.regs = (s.a, s.x, s.y, s.sp - 2) ∧ t.p = s.p ∧
      t.cycles = s.cycles + 6 ∧ t.trace = s.trace ∧ t.draws = s.draws ∧ PushesWord (s.pc + 2) s t ∧ KeepsBlock s t) ∧
    (∃ t, exec .rts s = .next t ∧ t.pc = wordOf (stackByte s 1) (stackByte s 2) + 1 ∧
      t.regs = (s.a, s.x, s.y, s.sp + 2) ∧ t.p = s.p ∧ t.cycles = s.cycles + 6 ∧ t.trace = s.trace ∧ t.draws = s.draws ∧
      KeepsMemory s t ∧ KeepsBlock s t)

/-- R331, R332: RTS right after JSR returns to the instruction after the JSR, with every register as before, whatever SP is. -/
def Obligations.ReturnUndoesCall : Prop :=
  ∀ (s : State) (w : Addr), ∃ t u, exec (.jsrAbs w) s = .next t ∧ exec .rts t = .next u ∧ u.pc = s.pc + 3 ∧
    u.regs = s.regs ∧ u.p = s.p

/-- R333: BRK completes: BRK's address + 2 and P with B and R set are pushed, I is set and no other flag changes, PC is the word at $FFFE,
7 cycles. -/
def Obligations.BreakEntersThroughItsVector : Prop :=
  ∀ s : State, Instr.brk.opcode = 0x00 ∧ ∃ t, exec .brk s = .next t ∧ t.regs = (s.a, s.x, s.y, s.sp - 3) ∧
    t.p = packFlags { s.flags with i := true } ∧ t.pc = (read16 0xFFFE s).1 ∧ t.trace = (read16 0xFFFE s).2.trace ∧
    t.draws = (read16 0xFFFE s).2.draws ∧ t.cycles = s.cycles + 7 ∧ PushesEntry (s.pc + 2) (s.p ||| 0x30) s t ∧
    KeepsBlock s t

/-- R334: RTI completes: P is the byte pulled with B discarded and R set, then PC is the word pulled, nothing added. -/
def Obligations.ReturnFromInterruptRestores : Prop :=
  ∀ s : State, Instr.rti.opcode = 0x40 ∧ ∃ t, exec .rti s = .next t ∧ t.regs = (s.a, s.x, s.y, s.sp + 3) ∧
    t.p = (stackByte s 1 &&& 0xCF) ||| 0x20 ∧ t.pc = wordOf (stackByte s 2) (stackByte s 3) ∧ t.trace = s.trace ∧
    t.draws = s.draws ∧ t.cycles = s.cycles + 6 ∧ KeepsMemory s t ∧ KeepsBlock s t

/-- R335 to R341: CLC, SEC, CLI, SEI, CLD, SED and CLV complete and write their one flag. -/
def Obligations.FlagInstructionsWriteOneFlag : Prop :=
  ∀ s : State, opcodesOf (flagForms s.flags) = [0x18, 0x38, 0x58, 0x78, 0xD8, 0xF8, 0xB8] ∧
    ∀ f ∈ flagForms s.flags, ∃ t, exec f.1 s = .next t ∧ QuietFrame 1 2 s t ∧ t.regs = s.regs ∧
    t.p = packFlags f.2

/-- R342, R391 to R394: every NOP completes; the memory forms make their one read, which is an event in the register window, and take
the page-cross penalty; nothing else changes. -/
def Obligations.NoOperationsOnlyAdvance : Prop :=
  ∀ (s : State) (v z : Byte) (w : Addr),
    nopOneByte.map Instr.opcode = [0x1A, 0x3A, 0x5A, 0x7A, 0xDA, 0xEA, 0xFA] ∧
    (∀ i ∈ nopOneByte, ∃ t, exec i s = .next t ∧ QuietFrame 1 2 s t ∧ t.regs = s.regs ∧ t.p = s.p) ∧
    opcodesOf (nopForms v z w) = [0x04, 0x0C, 0x14, 0x1C, 0x34, 0x3C, 0x44,
        0x54, 0x5C, 0x64, 0x74, 0x7C, 0x80, 0x82, 0x89, 0xC2, 0xD4, 0xDC, 0xE2, 0xF4, 0xFC] ∧
    (∀ f ∈ nopForms v z w, ∃ t, exec f.1 s = .next t ∧ ReadFrame f.2.2 f.2.1 s t ∧ t.regs = s.regs ∧ t.p = s.p)

/-- R371, R372, R373: SLO, RLA and SRE complete in every form: the byte at EA is shifted or rotated in place, A is combined with the byte
written, N and Z follow A, C the bit shifted out. -/
def Obligations.ShiftAndCombineWithA : Prop :=
  ∀ (s : State) (z : Byte) (w : Addr),
    opcodesOf (sloForms z w) = [0x03, 0x07, 0x0F, 0x13, 0x17, 0x1B, 0x1F] ∧
    (∀ f ∈ sloForms z w, ∃ t, exec f.1 s = .next t ∧ RmwFrame f.2.2 f.2.1 (aslOut (byteOf (.mem f.2.1) s)).1 s t ∧
      t.regs = (s.a ||| (aslOut (byteOf (.mem f.2.1) s)).1, s.x, s.y, s.sp) ∧
      t.p = packFlags { nzOf (s.a ||| (aslOut (byteOf (.mem f.2.1) s)).1) s.flags with
        c := (aslOut (byteOf (.mem f.2.1) s)).2 }) ∧
    opcodesOf (rlaForms z w) = [0x23, 0x27, 0x2F, 0x33, 0x37, 0x3B, 0x3F] ∧
    (∀ f ∈ rlaForms z w, ∃ t, exec f.1 s = .next t ∧ RmwFrame f.2.2 f.2.1 (rolOut (byteOf (.mem f.2.1) s) s.flags.c).1 s t ∧
      t.regs = (s.a &&& (rolOut (byteOf (.mem f.2.1) s) s.flags.c).1, s.x, s.y, s.sp) ∧
      t.p = packFlags { nzOf (s.a &&& (rolOut (byteOf (.mem f.2.1) s) s.flags.c).1) s.flags with
        c := (rolOut (byteOf (.mem f.2.1) s) s.flags.c).2 }) ∧
    opcodesOf (sreForms z w) = [0x43, 0x47, 0x4F, 0x53, 0x57, 0x5B, 0x5F] ∧
    (∀ f ∈ sreForms z w, ∃ t, exec f.1 s = .next t ∧ RmwFrame f.2.2 f.2.1 (lsrOut (byteOf (.mem f.2.1) s)).1 s t ∧
      t.regs = (s.a ^^^ (lsrOut (byteOf (.mem f.2.1) s)).1, s.x, s.y, s.sp) ∧
      t.p = packFlags { nzOf (s.a ^^^ (lsrOut (byteOf (.mem f.2.1) s)).1) s.flags with
        c := (lsrOut (byteOf (.mem f.2.1) s)).2 })

/-- R374, R377, R378: RRA, DCP and ISB complete in every form: the byte at EA is rotated, decremented or incremented in place; then it is
added to A with the rotate's carry, compared with A, or subtracted from A with borrow. -/
def Obligations.RotateStepAndArithmetic : Prop :=
  ∀ (s : State) (z : Byte) (w : Addr),
    opcodesOf (rraForms z w) = [0x63, 0x67, 0x6F, 0x73, 0x77, 0x7B, 0x7F] ∧
    (∀ f ∈ rraForms z w, ∃ t, exec f.1 s = .next t ∧
      let r := rorOut (byteOf (.mem f.2.1) s) s.flags.c
      RmwFrame f.2.2 f.2.1 r.1 s t ∧ t.regs = (BitVec.ofNat 8 (s.a.toNat + r.1.toNat + r.2.toNat), s.x, s.y, s.sp) ∧
      t.p = packFlags (addFlags s.a r.1 r.2 s.flags)) ∧
    opcodesOf (dcpForms z w) = [0xC3, 0xC7, 0xCF, 0xD3, 0xD7, 0xDB, 0xDF] ∧
    (∀ f ∈ dcpForms z w, ∃ t, exec f.1 s = .next t ∧
      let r : Byte := BitVec.ofNat 8 ((byteOf (.mem f.2.1) s).toNat + 255)
      RmwFrame f.2.2 f.2.1 r s t ∧ t.regs = s.regs ∧ t.p = packFlags (compareFlags s.a r s.flags)) ∧
    opcodesOf (isbForms z w) = [0xE3, 0xE7, 0xEF, 0xF3, 0xF7, 0xFB, 0xFF] ∧
    (∀ f ∈ isbForms z w, ∃ t, exec f.1 s = .next t ∧
      let r : Byte := BitVec.ofNat 8 ((byteOf (.mem f.2.1) s).toNat + 1)
      RmwFrame f.2.2 f.2.1 r s t ∧ t.regs = (BitVec.ofInt 8 (unsignedDiff s.a r s.flags.c), s.x, s.y, s.sp) ∧
      t.p = packFlags (subFlags s.a r s.flags.c s.flags))

/-- R379, R380, R381, R384: ANC (both opcodes), ALR, ARR and AXS complete with the results and flags the rules give. -/
def Obligations.ImmediateCombinations : Prop :=
  ∀ (s : State) (v : Byte),
    [Instr.ancImm0B v, Instr.ancImm2B v, Instr.alrImm v, Instr.arrImm v, Instr.axsImm v].map Instr.opcode =
      [0x0B, 0x2B, 0x4B, 0x6B, 0xCB] ∧
    (∀ i ∈ [Instr.ancImm0B v, Instr.ancImm2B v], ∃ t, exec i s = .next t ∧ QuietFrame 2 2 s t ∧
      t.regs = (s.a &&& v, s.x, s.y, s.sp) ∧
      t.p = packFlags { nzOf (s.a &&& v) s.flags with c := decide (128 ≤ (s.a &&& v).toNat) }) ∧
    (∃ t, exec (.alrImm v) s = .next t ∧ QuietFrame 2 2 s t ∧ t.regs = ((lsrOut (s.a &&& v)).1, s.x, s.y, s.sp) ∧
      t.p = packFlags { nzOf (lsrOut (s.a &&& v)).1 s.flags with c := (lsrOut (s.a &&& v)).2 }) ∧
    (∃ t, exec (.arrImm v) s = .next t ∧ QuietFrame 2 2 s t ∧
      let r := arrOut (s.a &&& v) s.flags.c
      t.regs = (r, s.x, s.y, s.sp) ∧
      t.p = packFlags { nzOf r s.flags with
        c := decide (r.toNat / 64 % 2 = 1)
        v := decide (r.toNat / 64 % 2 ≠ r.toNat / 32 % 2) }) ∧
    (∃ t, exec (.axsImm v) s = .next t ∧ QuietFrame 2 2 s t ∧
      let r : Byte := BitVec.ofNat 8 ((s.a &&& s.x).toNat + 256 - v.toNat)
      t.regs = (s.a, r, s.y, s.sp) ∧
      t.p = packFlags { nzOf r s.flags with c := decide (v.toNat ≤ (s.a &&& s.x).toNat) })

/-- R382, R383, R385: XAA, LAX immediate and LAS complete, for every value of XAA_MAGIC and LXA_MAGIC. -/
def Obligations.UnstableLoadsUseTheirParameters : Prop :=
  ∀ (s : State) (v : Byte) (w : Addr),
    [Instr.xaaImm v, Instr.laxImm v, Instr.lasAbsy w].map Instr.opcode = [0x8B, 0xAB, 0xBB] ∧
    (∃ t, exec (.xaaImm v) s = .next t ∧ QuietFrame 2 2 s t ∧
      t.regs = ((s.a ||| s.params.xaaMagic) &&& s.x &&& v, s.x, s.y, s.sp) ∧
      t.p = packFlags (nzOf ((s.a ||| s.params.xaaMagic) &&& s.x &&& v) s.flags)) ∧
    (∃ t, exec (.laxImm v) s = .next t ∧ QuietFrame 2 2 s t ∧
      t.regs = ((s.a ||| s.params.lxaMagic) &&& v, (s.a ||| s.params.lxaMagic) &&& v, s.y, s.sp) ∧
      t.p = packFlags (nzOf ((s.a ||| s.params.lxaMagic) &&& v) s.flags)) ∧
    (∃ t, exec (.lasAbsy w) s = .next t ∧ ReadFrame 4 (.mem (.absy w)) s t ∧
      let r := byteOf (.mem (.absy w)) s &&& s.sp
      t.regs = (r, r, s.y, r) ∧ t.p = packFlags (nzOf r s.flags))

/-- R386 to R389, R395: TAS, SHX, SHY and AHX complete in every form, for both values of SH_GLITCH: they store the value AND the base's high
byte plus one, at EA or, on a page cross with the glitch, at the address whose high byte is the value stored; TAS writes SP too. -/
def Obligations.HighByteStoresGoWhereTheGlitchSays : Prop :=
  ∀ (s : State) (z : Byte) (w : Addr), opcodesOf (shForms z w s) = [0x9B, 0x9E, 0x9C, 0x93, 0x9F] ∧
    ∀ f ∈ shForms z w s, ∃ t, exec f.1 s = .next t ∧
    let m := f.2.1
    let base := f.2.2.1
    let v : Byte := f.2.2.2.1 &&& BitVec.ofNat 8 (base.toNat / 256 + 1)
    let addr : Addr :=
      if s.params.shGlitch = true ∧ base.toNat / 256 ≠ (eaOf m s).toNat / 256 then
        BitVec.ofNat 16 (v.toNat * 256 + (eaOf m s).toNat % 256)
      else eaOf m s
    t.pc = s.pc + BitVec.ofNat 16 (memLength m) ∧ t.cycles = s.cycles + f.2.2.2.2.2 ∧
    t.trace = s.trace ++ writeEvents s.params addr v ∧ t.draws = s.draws ∧ StoresAt addr v s t ∧ KeepsBlock s t ∧
    t.regs = (s.a, s.x, s.y, f.2.2.2.2.1) ∧ t.p = s.p

/-- R400, R480, R156: each JAM opcode sets `jammed`, adds JAM_CYCLES, leaves PC at itself and everything else as it was, and the next step
does nothing. -/
def Obligations.JamHaltsInPlace : Prop :=
  ∀ s : State, jamInstrs.map Instr.opcode = [0x02, 0x12, 0x22, 0x32, 0x42, 0x52, 0x62, 0x72, 0x92, 0xB2, 0xD2, 0xF2] ∧
    ∀ i ∈ jamInstrs, ∃ t, exec i s = .next t ∧ t.jammed = true ∧ t.pc = s.pc ∧
    t.cycles = s.cycles + s.params.jamCycles ∧ t = { s with jammed := true, cycles := t.cycles } ∧ step t = .next t

/-- R152, R153, R154, R127: every one of the 256 instructions completes, at the base cycles of its row plus a penalty only where its row has
one; it costs 2 to 8 cycles, but a JAM, which alone changes `jammed`. -/
def Obligations.EveryInstructionCompletesAtItsCost : Prop :=
  ∀ (i : Instr) (s : State), ∃ t k, exec i s = .next t ∧ t.cycles = s.cycles + baseCyclesOf i.row s.params + k ∧
    (k = 0 ∨ i.row.pageCross = true ∧ k = 1 ∨ i.row.branch = true ∧ (k = 1 ∨ k = 2)) ∧
    (t.jammed = s.jammed ∧ 2 ≤ baseCyclesOf i.row s.params + k ∧ baseCyclesOf i.row s.params + k ≤ 8 ∨
      i ∈ jamInstrs ∧ t.jammed = true)

/-- R7, R42, R47: from every state that meets the invariant, a step gives one that meets it: R stays 1 and B stays 0 in P, RAM stays 2,048
bytes in canonical form, and the session, the accumulator, the ring and the parameters stay legal. -/
def Obligations.StepKeepsTheInvariant : Prop :=
  ∀ s t : State, s.Inv → step s = .next t → t.Inv

/-- R520, R521, R36: the state after reset meets the invariant, whatever the song count and the entry points of R8 are there; its
registers, its RAM and its empty image are values of the model (log entries 2, 3, 4). -/
def Obligations.ResetMeetsTheInvariant : Prop :=
  State.reset.Inv

/-- R441, R42, R50, R560: every call of the host and every single move of the producer and the consumer, under the premises of R560, keeps the
invariant, the ring's index invariant among it. -/
def Obligations.EveryMoveKeepsTheInvariant : Prop :=
  ∀ (m : Move) (s : State), s.Inv → m.allowed s → (act m s).2.Inv

/-- R484, R485, R486: on a jammed CPU both calls do nothing; on one not jammed, `nmi()` is taken
whatever I holds and `irq()` exactly when I is clear: PC and P with B clear and R set are pushed, I is set and D kept, PC is the word at the
vector, 7 cycles. -/
def Obligations.InterruptEntry : Prop :=
  ∀ s : State, (s.jammed = true → nmi s = s ∧ irq s = s) ∧ (s.jammed = false →
    (∃ t, nmi s = t ∧ t.regs = (s.a, s.x, s.y, s.sp - 3) ∧ t.p = packFlags { s.flags with i := true } ∧
      t.pc = (read16 0xFFFA s).1 ∧ t.trace = (read16 0xFFFA s).2.trace ∧ t.draws = (read16 0xFFFA s).2.draws ∧
      t.cycles = s.cycles + 7 ∧ PushesEntry s.pc ((s.p &&& 0xEF) ||| 0x20) s t ∧ KeepsBlock s t) ∧
    (s.flags.i = true → irq s = s) ∧
    (s.flags.i = false → ∃ t, irq s = t ∧ t.regs = (s.a, s.x, s.y, s.sp - 3) ∧ t.p = packFlags { s.flags with i := true } ∧
      t.pc = (read16 0xFFFE s).1 ∧ t.trace = (read16 0xFFFE s).2.trace ∧ t.draws = (read16 0xFFFE s).2.draws ∧
      t.cycles = s.cycles + 7 ∧ PushesEntry s.pc ((s.p &&& 0xEF) ||| 0x20) s t ∧ KeepsBlock s t))

/-- R490, R489, R131: RTI right after an entry restores PC, P and SP; after BRK it returns to BRK's address + 2. -/
def Obligations.ReturnUndoesEntry : Prop :=
  ∀ s : State, s.jammed = false → StatusOk s.p →
    (∃ u, exec .rti (nmi s) = .next u ∧ u.pc = s.pc ∧ u.p = s.p ∧ u.regs = s.regs) ∧
    (∃ t u, exec .brk s = .next t ∧ exec .rti t = .next u ∧ u.pc = s.pc + 2 ∧ u.p = s.p ∧ u.regs = s.regs)

/-- R520: `reset()` sets SP to $FD, I and R to 1, B to 0, clears the jam and takes PC from the reset vector; `cycles`, RAM, the accumulator, the
ring and the session stay (A, X, Y and the other flags are free values, log entry 5, and nothing is said of them). -/
def Obligations.ResetCallSetsWhatTheSpecSays : Prop :=
  ∀ s : State, (resetCpu s).sp = 0xFD ∧ (resetCpu s).flags.i = true ∧ StatusOk (resetCpu s).p ∧
    (resetCpu s).jammed = false ∧ (resetCpu s).pc = (read16 0xFFFC { s with draws := s.draws + 4 }).1 ∧
    (resetCpu s).trace = (read16 0xFFFC { s with draws := s.draws + 4 }).2.trace ∧
    (resetCpu s).cycles = s.cycles ∧ (resetCpu s).ram = s.ram ∧ (resetCpu s).acc = s.acc ∧ (resetCpu s).ring = s.ring ∧
    (resetCpu s).session = s.session ∧ (resetCpu s).params = s.params

/-- R530, R531, R532, R560: `init_song(n)` fails with InvalidSongNumber and changes nothing where n is outside 1..TOTAL_SONGS; else it clears the
jam and RAM, writes the trap and pushes its address, and sets A, X, Y, P, SP, PC and the session. The host's call brings its song file,
which is mapped if it has the song (log entry 25, DEDUCED). -/
def Obligations.InitSongSetsUpTheLaunch : Prop :=
  ∀ (n : Nat) (s : State),
    ((n < 1 ∨ s.params.file.totalSongs < n) → initSong n s = (.error .invalidSongNumber, s)) ∧
    (1 ≤ n ∧ n ≤ s.params.file.totalSongs → s.params.trapAddr ≤ 0xFC → ∃ t, initSong n s = (.ok (), t) ∧
      t.regs = (BitVec.ofNat 8 (n - 1), (if s.params.region = .pal then 1 else 0), 0x00, 0xFB) ∧ t.p = 0x26 ∧
      t.pc = s.params.file.initAddr ∧ t.jammed = false ∧ t.session = { loaded := true, song := n, status := .idle } ∧
      (∀ i, i < 2048 → Memory.read t.ram i = launchRam s.params.trapAddr i) ∧ t.cycles = s.cycles ∧ t.trace = s.trace ∧
      t.acc = s.acc ∧ t.ring = s.ring ∧ t.params = s.params) ∧
    (∀ f : SongFile, initSongOf f n s =
      if 1 ≤ n ∧ n ≤ f.totalSongs then initSong n (s.mapFile f) else (.error .invalidSongNumber, s))

/-- R533, R532: the routine's final RTS, with SP = $FB and the trap and its pushed address intact, goes to TRAP_ADDR + 1, and the step after
it to TRAP_ADDR. -/
def Obligations.ReturnLandsInTheTrap : Prop :=
  ∀ s : State, s.jammed = false → TrapIntact s → s.sp = 0xFB → Memory.read s.ram 0x1FC = s.params.trapAddr →
    Memory.read s.ram 0x1FD = 0x00 → ∃ t u, exec .rts s = .next t ∧ t.pc.toNat = s.params.trapAddr.toNat + 1 ∧ t.sp = 0xFD ∧
      step t = .next u ∧ u.pc.toNat = s.params.trapAddr.toNat ∧ u.cycles = s.cycles + 9 ∧ u.trace = s.trace ∧ u.sp = 0xFD

/-- R155, R157: `run(target)` steps until at least target cycles have elapsed or the CPU jams, and overruns by at most 7. -/
def Obligations.RunStopsWithinOneInstruction : Prop :=
  ∀ (target : Nat) (s : State), run 0 s = (0, s) ∧ (run target s).1 = (run target s).2.cycles - s.cycles ∧
    (1 ≤ target →
      ((run target s).2.jammed = false → target ≤ (run target s).1 ∧ (run target s).1 ≤ target + 7) ∧
      ((run target s).2.jammed = true → (run target s).1 ≤ target - 1 + s.params.jamCycles))

/-- R534, R537, R561: a launch ends with PC at the trap, or with the budget used up and exceeded by at most 7, or jammed with CpuJammed, and
the session says which. -/
def Obligations.LaunchEndsInOneOfThreeWays : Prop :=
  ∀ (budget : Nat) (s : State),
    (launch 0 s).1 = .ok (.budgetExhausted 0) ∧
    match launch budget s with
    | (.ok (.trapped e), t) => t.pc = zeroPage s.params.trapAddr ∧ t.jammed = false ∧ t.session.status = .trapped ∧
        t.cycles = s.cycles + e ∧ e ≤ budget + 7
    | (.ok (.budgetExhausted e), t) => budget ≤ e ∧ e ≤ budget + 7 ∧ t.cycles = s.cycles + e ∧
        t.session.status = .budgetExhausted
    | (.error e, t) => e = .cpuJammed ∧ t.jammed = true ∧ t.session.status = .jammed

/-- R536, R531, R532: `run_play_frame()` fails before any `init_song`, fails on a jammed CPU, and else launches PLAY from registers, trap and
stack set up anew, the rest of RAM as it was. -/
def Obligations.PlayFrameIsRefusedOrLaunched : Prop :=
  ∀ s : State,
    (s.session.loaded = false → runPlayFrame s = (.error .uninitializedPlay, s)) ∧
    (s.session.loaded = true ∧ s.jammed = true →
      runPlayFrame s = (.error .cpuJammed, { s with session := { s.session with status := .jammed } })) ∧
    (s.session.loaded = true ∧ s.jammed = false → s.params.trapAddr ≤ 0xFC → ∃ t, runPlayFrame s = launch s.params.playBudget t ∧
      t.regs = (BitVec.ofNat 8 (s.session.song - 1), (if s.params.region = .pal then 1 else 0), 0x00, 0xFB) ∧ t.p = 0x26 ∧
      t.pc = s.params.file.playAddr ∧ TrapIntact t ∧ Memory.read t.ram 0x1FC = s.params.trapAddr ∧
      Memory.read t.ram 0x1FD = 0x00 ∧ t.session = s.session ∧ t.cycles = s.cycles ∧
      ∀ i, ¬(s.params.trapAddr.toNat ≤ i ∧ i ≤ s.params.trapAddr.toNat + 3) → i ≠ 0x1FC → i ≠ 0x1FD →
        Memory.read t.ram i = Memory.read s.ram i)

/-- R432, R430, R431: over any number of frames the samples due add up to exactly floor((a0 + N * INC) / 65536), and the accumulator keeps
exactly the fraction. -/
def Obligations.DueSamplesAddUpExactly : Prop :=
  ∀ (n : Nat) (s : State), s.acc.toNat < 65536 → s.params.sampleRate ≤ 65535 →
    let inc := s.params.sampleRate * 65536 / 60
    (dueOver n s).1 = (s.acc.toNat + n * inc) / 65536 ∧ (dueOver n s).2.acc.toNat = (s.acc.toNat + n * inc) % 65536

/-- R435, R436: converting back to front in place gives the converted samples in order and leaves the rest of the buffer; each is
(u - 128) * 256. -/
def Obligations.InPlaceConversionLosesNoSample : Prop :=
  ∀ (o : ByteOrder) (n : Nat) (buf : List Byte), 2 * n ≤ buf.length →
    convertInPlace o n buf = convertedBytes o buf n ++ buf.drop (2 * n) ∧
    ∀ u : Byte, (convertSample u).toInt = ((u.toNat : Int) - 128) * 256

/-- R433: `render_frame` answers BufferTooSmall exactly when more samples are due than fit, and the accumulator advances in both outcomes; else
the count due, and the buffer past the samples is as it was. -/
def Obligations.RenderFrameAdvancesEitherWay : Prop :=
  ∀ (buf : List Byte) (capacity : Nat) (s : State),
    (renderFrame buf capacity s).2.acc = (frameDueSamples s).2.acc ∧
    (capacity < (frameDueSamples s).1 → (renderFrame buf capacity s).1 = .tooSmall) ∧
    ((frameDueSamples s).1 ≤ capacity → 2 * capacity = buf.length → ∃ out, out.length = buf.length ∧
      (renderFrame buf capacity s).1 = .rendered (frameDueSamples s).1 out ∧
      out.drop (2 * (frameDueSamples s).1) = buf.drop (2 * (frameDueSamples s).1))

/-- R437, R438: the elements a push appends are its mono samples, or the floors of the averages of its interleaved pairs, each offset by 32768
and shifted down to RING_BITS bits, which never needs the clamp; a call with another channel count stores nothing and returns 0. That a
mono call takes the samples there are where the buffer is shorter than `count` is the model's choice (log entry 19, PRESUMED). -/
def Obligations.PushedElementsAreMixedAndScaled : Prop :=
  ∀ (s : State) (buf : List Sample) (count : Nat), 1 ≤ s.params.ringBits → s.params.ringBits ≤ 16 →
    let bits := s.params.ringBits
    let q : Int → Nat := fun v => ((v + 32768) / 2 ^ (16 - bits)).toNat
    let es : Nat → List Nat := fun channels => (pushElements s.params buf count channels).map BitVec.toNat
    (∀ v : Sample, 0 ≤ (v.toInt + 32768) / 2 ^ (16 - bits) ∧ (v.toInt + 32768) / 2 ^ (16 - bits) ≤ 2 ^ bits - 1) ∧
    es 1 = (buf.take count).map (fun v => q v.toInt) ∧
    (2 * count ≤ buf.length → (es 2).length = count ∧
      ∀ k, k < count → (es 2)[k]? = some (q (((buf.getD (2 * k) 0).toInt + (buf.getD (2 * k + 1) 0).toInt) / 2))) ∧
    (∀ channels, channels ≠ 1 → channels ≠ 2 → pushToRing buf count channels s = (0, s))

/-- R442, R441, R91, R440: with the producer and the consumer moving one step at a time in any order and with stale views, the ring is a
queue of at most RING_CAP elements: a publication appends the element stored, a pull takes the oldest, every other move leaves the queue, and
an element returned is the new last, or the last again when the ring looked empty. -/
def Obligations.RingIsABoundedQueue : Prop :=
  ∀ s : State, s.Inv →
    let q : State → List Elem := fun t => t.ring.queue t.params.ringCap t.params.ringBits
    (q s).length ≤ s.params.ringCap ∧
    (∀ e rest n, s.producer = .publishing e rest n → q (producerMove s).2 = q s ++ [e]) ∧
    ((∀ e rest n, s.producer ≠ .publishing e rest n) → q (producerMove s).2 = q s) ∧
    (∀ e, s.consumer = .publishing e → (consumerMove s).1 = some e ∧ q s = e :: q (consumerMove s).2) ∧
    ((∀ e, s.consumer ≠ .publishing e) → q (consumerMove s).2 = q s) ∧
    (∀ e, (consumerMove s).1 = some e → (consumerMove s).2.ring.last = e)

/-- R443, R439: a push stores the first elements of the call, in order, never more than the free space, and with a fixed view of the read index
exactly as many as fit by that view. -/
def Obligations.PushStoresThePrefixThatFits : Prop :=
  ∀ (view : Nat → Nat) (s : State) (es : List Elem), s.Inv →
    let cap := s.params.ringCap
    let r := Ring.pushLoop view cap es 0 s.ring
    r.1 ≤ es.length ∧ r.1 ≤ cap - s.ring.used ∧
    r.2.queue cap s.params.ringBits = s.ring.queue cap s.params.ringBits ++ es.take r.1 ∧
    ((∀ n, view n = 0) → r.1 = min es.length (cap - (s.ring.w - s.ring.rSeen).toNat))

/-- R252, R130, R40: but for the pushes and pulls of P and CLD and SED, an instruction does the same whatever D is, and leaves D as it was. The
two runs compared draw the same answers of the register window: draws depend on the model's counter, which is the model's choice (log
entry 24, DESIGN CHOICE). -/
def Obligations.DecimalFlagChangesNothing : Prop :=
  ∀ (i : Instr) (s t : State), i ∉ [Instr.php, .brk, .plp, .rti, .cld, .sed] → exec i s = .next t →
    exec i (flipD s) = .next (flipD t)

/-- R550, R45: no instruction's result depends on `cycles`: it only adds to the counter. The two runs compared draw the same answers of the
register window, which is the model's choice (log entry 24, DESIGN CHOICE). -/
def Obligations.CyclesAreNotRead : Prop :=
  ∀ (i : Instr) (s t : State) (k : Nat), exec i s = .next t → exec i (s.tick k) = .next (t.tick k)

/-- R93, R82: a move of the consumer and a step of the CPU commute: neither sees what the other does. That both orders draw the
same answers and the same views is the model's choice: the draws of the window and of the ring's views are numbered by counters of their
own (log entry 24, DESIGN CHOICE, and log entry 8). -/
def Obligations.ConsumerAndCpuDoNotMeet : Prop :=
  ∀ s t : State, step s = .next t → step (consumerMove s).2 = .next (consumerMove t).2 ∧ (consumerMove s).1 = (consumerMove t).1

end
end

