-- ==== Sys2Proof/Laws/State.lean ====
section
/-!
SUPPORT. One lemma per field per update of the state, true by `rfl`, so that no proof unfolds a record update.
-/

namespace Sys2Proof.Machine

@[simp] theorem State.setA_a (s : State) (v : Byte) : (s.setA v).a = v := rfl
@[simp] theorem State.setA_x (s : State) (v : Byte) : (s.setA v).x = s.x := rfl
@[simp] theorem State.setA_y (s : State) (v : Byte) : (s.setA v).y = s.y := rfl
@[simp] theorem State.setA_sp (s : State) (v : Byte) : (s.setA v).sp = s.sp := rfl
@[simp] theorem State.setA_pc (s : State) (v : Byte) : (s.setA v).pc = s.pc := rfl
@[simp] theorem State.setA_p (s : State) (v : Byte) : (s.setA v).p = s.p := rfl
@[simp] theorem State.setA_cycles (s : State) (v : Byte) : (s.setA v).cycles = s.cycles := rfl
@[simp] theorem State.setA_jammed (s : State) (v : Byte) : (s.setA v).jammed = s.jammed := rfl
@[simp] theorem State.setA_ram (s : State) (v : Byte) : (s.setA v).ram = s.ram := rfl
@[simp] theorem State.setA_trace (s : State) (v : Byte) : (s.setA v).trace = s.trace := rfl
@[simp] theorem State.setA_session (s : State) (v : Byte) : (s.setA v).session = s.session := rfl
@[simp] theorem State.setA_acc (s : State) (v : Byte) : (s.setA v).acc = s.acc := rfl
@[simp] theorem State.setA_ring (s : State) (v : Byte) : (s.setA v).ring = s.ring := rfl
@[simp] theorem State.setA_producer (s : State) (v : Byte) : (s.setA v).producer = s.producer := rfl
@[simp] theorem State.setA_consumer (s : State) (v : Byte) : (s.setA v).consumer = s.consumer := rfl
@[simp] theorem State.setA_params (s : State) (v : Byte) : (s.setA v).params = s.params := rfl
@[simp] theorem State.setA_draws (s : State) (v : Byte) : (s.setA v).draws = s.draws := rfl

@[simp] theorem State.setX_a (s : State) (v : Byte) : (s.setX v).a = s.a := rfl
@[simp] theorem State.setX_x (s : State) (v : Byte) : (s.setX v).x = v := rfl
@[simp] theorem State.setX_y (s : State) (v : Byte) : (s.setX v).y = s.y := rfl
@[simp] theorem State.setX_sp (s : State) (v : Byte) : (s.setX v).sp = s.sp := rfl
@[simp] theorem State.setX_pc (s : State) (v : Byte) : (s.setX v).pc = s.pc := rfl
@[simp] theorem State.setX_p (s : State) (v : Byte) : (s.setX v).p = s.p := rfl
@[simp] theorem State.setX_cycles (s : State) (v : Byte) : (s.setX v).cycles = s.cycles := rfl
@[simp] theorem State.setX_jammed (s : State) (v : Byte) : (s.setX v).jammed = s.jammed := rfl
@[simp] theorem State.setX_ram (s : State) (v : Byte) : (s.setX v).ram = s.ram := rfl
@[simp] theorem State.setX_trace (s : State) (v : Byte) : (s.setX v).trace = s.trace := rfl
@[simp] theorem State.setX_session (s : State) (v : Byte) : (s.setX v).session = s.session := rfl
@[simp] theorem State.setX_acc (s : State) (v : Byte) : (s.setX v).acc = s.acc := rfl
@[simp] theorem State.setX_ring (s : State) (v : Byte) : (s.setX v).ring = s.ring := rfl
@[simp] theorem State.setX_producer (s : State) (v : Byte) : (s.setX v).producer = s.producer := rfl
@[simp] theorem State.setX_consumer (s : State) (v : Byte) : (s.setX v).consumer = s.consumer := rfl
@[simp] theorem State.setX_params (s : State) (v : Byte) : (s.setX v).params = s.params := rfl
@[simp] theorem State.setX_draws (s : State) (v : Byte) : (s.setX v).draws = s.draws := rfl

@[simp] theorem State.setY_a (s : State) (v : Byte) : (s.setY v).a = s.a := rfl
@[simp] theorem State.setY_x (s : State) (v : Byte) : (s.setY v).x = s.x := rfl
@[simp] theorem State.setY_y (s : State) (v : Byte) : (s.setY v).y = v := rfl
@[simp] theorem State.setY_sp (s : State) (v : Byte) : (s.setY v).sp = s.sp := rfl
@[simp] theorem State.setY_pc (s : State) (v : Byte) : (s.setY v).pc = s.pc := rfl
@[simp] theorem State.setY_p (s : State) (v : Byte) : (s.setY v).p = s.p := rfl
@[simp] theorem State.setY_cycles (s : State) (v : Byte) : (s.setY v).cycles = s.cycles := rfl
@[simp] theorem State.setY_jammed (s : State) (v : Byte) : (s.setY v).jammed = s.jammed := rfl
@[simp] theorem State.setY_ram (s : State) (v : Byte) : (s.setY v).ram = s.ram := rfl
@[simp] theorem State.setY_trace (s : State) (v : Byte) : (s.setY v).trace = s.trace := rfl
@[simp] theorem State.setY_session (s : State) (v : Byte) : (s.setY v).session = s.session := rfl
@[simp] theorem State.setY_acc (s : State) (v : Byte) : (s.setY v).acc = s.acc := rfl
@[simp] theorem State.setY_ring (s : State) (v : Byte) : (s.setY v).ring = s.ring := rfl
@[simp] theorem State.setY_producer (s : State) (v : Byte) : (s.setY v).producer = s.producer := rfl
@[simp] theorem State.setY_consumer (s : State) (v : Byte) : (s.setY v).consumer = s.consumer := rfl
@[simp] theorem State.setY_params (s : State) (v : Byte) : (s.setY v).params = s.params := rfl
@[simp] theorem State.setY_draws (s : State) (v : Byte) : (s.setY v).draws = s.draws := rfl

@[simp] theorem State.setSP_a (s : State) (v : Byte) : (s.setSP v).a = s.a := rfl
@[simp] theorem State.setSP_x (s : State) (v : Byte) : (s.setSP v).x = s.x := rfl
@[simp] theorem State.setSP_y (s : State) (v : Byte) : (s.setSP v).y = s.y := rfl
@[simp] theorem State.setSP_sp (s : State) (v : Byte) : (s.setSP v).sp = v := rfl
@[simp] theorem State.setSP_pc (s : State) (v : Byte) : (s.setSP v).pc = s.pc := rfl
@[simp] theorem State.setSP_p (s : State) (v : Byte) : (s.setSP v).p = s.p := rfl
@[simp] theorem State.setSP_cycles (s : State) (v : Byte) : (s.setSP v).cycles = s.cycles := rfl
@[simp] theorem State.setSP_jammed (s : State) (v : Byte) : (s.setSP v).jammed = s.jammed := rfl
@[simp] theorem State.setSP_ram (s : State) (v : Byte) : (s.setSP v).ram = s.ram := rfl
@[simp] theorem State.setSP_trace (s : State) (v : Byte) : (s.setSP v).trace = s.trace := rfl
@[simp] theorem State.setSP_session (s : State) (v : Byte) : (s.setSP v).session = s.session := rfl
@[simp] theorem State.setSP_acc (s : State) (v : Byte) : (s.setSP v).acc = s.acc := rfl
@[simp] theorem State.setSP_ring (s : State) (v : Byte) : (s.setSP v).ring = s.ring := rfl
@[simp] theorem State.setSP_producer (s : State) (v : Byte) : (s.setSP v).producer = s.producer := rfl
@[simp] theorem State.setSP_consumer (s : State) (v : Byte) : (s.setSP v).consumer = s.consumer := rfl
@[simp] theorem State.setSP_params (s : State) (v : Byte) : (s.setSP v).params = s.params := rfl
@[simp] theorem State.setSP_draws (s : State) (v : Byte) : (s.setSP v).draws = s.draws := rfl

@[simp] theorem State.setPC_a (s : State) (v : Addr) : (s.setPC v).a = s.a := rfl
@[simp] theorem State.setPC_x (s : State) (v : Addr) : (s.setPC v).x = s.x := rfl
@[simp] theorem State.setPC_y (s : State) (v : Addr) : (s.setPC v).y = s.y := rfl
@[simp] theorem State.setPC_sp (s : State) (v : Addr) : (s.setPC v).sp = s.sp := rfl
@[simp] theorem State.setPC_pc (s : State) (v : Addr) : (s.setPC v).pc = v := rfl
@[simp] theorem State.setPC_p (s : State) (v : Addr) : (s.setPC v).p = s.p := rfl
@[simp] theorem State.setPC_cycles (s : State) (v : Addr) : (s.setPC v).cycles = s.cycles := rfl
@[simp] theorem State.setPC_jammed (s : State) (v : Addr) : (s.setPC v).jammed = s.jammed := rfl
@[simp] theorem State.setPC_ram (s : State) (v : Addr) : (s.setPC v).ram = s.ram := rfl
@[simp] theorem State.setPC_trace (s : State) (v : Addr) : (s.setPC v).trace = s.trace := rfl
@[simp] theorem State.setPC_session (s : State) (v : Addr) : (s.setPC v).session = s.session := rfl
@[simp] theorem State.setPC_acc (s : State) (v : Addr) : (s.setPC v).acc = s.acc := rfl
@[simp] theorem State.setPC_ring (s : State) (v : Addr) : (s.setPC v).ring = s.ring := rfl
@[simp] theorem State.setPC_producer (s : State) (v : Addr) : (s.setPC v).producer = s.producer := rfl
@[simp] theorem State.setPC_consumer (s : State) (v : Addr) : (s.setPC v).consumer = s.consumer := rfl
@[simp] theorem State.setPC_params (s : State) (v : Addr) : (s.setPC v).params = s.params := rfl
@[simp] theorem State.setPC_draws (s : State) (v : Addr) : (s.setPC v).draws = s.draws := rfl

@[simp] theorem State.advance_a (s : State) (n : Nat) : (s.advance n).a = s.a := rfl
@[simp] theorem State.advance_x (s : State) (n : Nat) : (s.advance n).x = s.x := rfl
@[simp] theorem State.advance_y (s : State) (n : Nat) : (s.advance n).y = s.y := rfl
@[simp] theorem State.advance_sp (s : State) (n : Nat) : (s.advance n).sp = s.sp := rfl
@[simp] theorem State.advance_pc (s : State) (n : Nat) : (s.advance n).pc = s.pc + BitVec.ofNat 16 n := rfl
@[simp] theorem State.advance_p (s : State) (n : Nat) : (s.advance n).p = s.p := rfl
@[simp] theorem State.advance_cycles (s : State) (n : Nat) : (s.advance n).cycles = s.cycles := rfl
@[simp] theorem State.advance_jammed (s : State) (n : Nat) : (s.advance n).jammed = s.jammed := rfl
@[simp] theorem State.advance_ram (s : State) (n : Nat) : (s.advance n).ram = s.ram := rfl
@[simp] theorem State.advance_trace (s : State) (n : Nat) : (s.advance n).trace = s.trace := rfl
@[simp] theorem State.advance_session (s : State) (n : Nat) : (s.advance n).session = s.session := rfl
@[simp] theorem State.advance_acc (s : State) (n : Nat) : (s.advance n).acc = s.acc := rfl
@[simp] theorem State.advance_ring (s : State) (n : Nat) : (s.advance n).ring = s.ring := rfl
@[simp] theorem State.advance_producer (s : State) (n : Nat) : (s.advance n).producer = s.producer := rfl
@[simp] theorem State.advance_consumer (s : State) (n : Nat) : (s.advance n).consumer = s.consumer := rfl
@[simp] theorem State.advance_params (s : State) (n : Nat) : (s.advance n).params = s.params := rfl
@[simp] theorem State.advance_draws (s : State) (n : Nat) : (s.advance n).draws = s.draws := rfl

@[simp] theorem State.tick_a (s : State) (n : Nat) : (s.tick n).a = s.a := rfl
@[simp] theorem State.tick_x (s : State) (n : Nat) : (s.tick n).x = s.x := rfl
@[simp] theorem State.tick_y (s : State) (n : Nat) : (s.tick n).y = s.y := rfl
@[simp] theorem State.tick_sp (s : State) (n : Nat) : (s.tick n).sp = s.sp := rfl
@[simp] theorem State.tick_pc (s : State) (n : Nat) : (s.tick n).pc = s.pc := rfl
@[simp] theorem State.tick_p (s : State) (n : Nat) : (s.tick n).p = s.p := rfl
@[simp] theorem State.tick_cycles (s : State) (n : Nat) : (s.tick n).cycles = s.cycles + n := rfl
@[simp] theorem State.tick_jammed (s : State) (n : Nat) : (s.tick n).jammed = s.jammed := rfl
@[simp] theorem State.tick_ram (s : State) (n : Nat) : (s.tick n).ram = s.ram := rfl
@[simp] theorem State.tick_trace (s : State) (n : Nat) : (s.tick n).trace = s.trace := rfl
@[simp] theorem State.tick_session (s : State) (n : Nat) : (s.tick n).session = s.session := rfl
@[simp] theorem State.tick_acc (s : State) (n : Nat) : (s.tick n).acc = s.acc := rfl
@[simp] theorem State.tick_ring (s : State) (n : Nat) : (s.tick n).ring = s.ring := rfl
@[simp] theorem State.tick_producer (s : State) (n : Nat) : (s.tick n).producer = s.producer := rfl
@[simp] theorem State.tick_consumer (s : State) (n : Nat) : (s.tick n).consumer = s.consumer := rfl
@[simp] theorem State.tick_params (s : State) (n : Nat) : (s.tick n).params = s.params := rfl
@[simp] theorem State.tick_draws (s : State) (n : Nat) : (s.tick n).draws = s.draws := rfl

@[simp] theorem State.setJammed_a (s : State) (b : Bool) : (s.setJammed b).a = s.a := rfl
@[simp] theorem State.setJammed_x (s : State) (b : Bool) : (s.setJammed b).x = s.x := rfl
@[simp] theorem State.setJammed_y (s : State) (b : Bool) : (s.setJammed b).y = s.y := rfl
@[simp] theorem State.setJammed_sp (s : State) (b : Bool) : (s.setJammed b).sp = s.sp := rfl
@[simp] theorem State.setJammed_pc (s : State) (b : Bool) : (s.setJammed b).pc = s.pc := rfl
@[simp] theorem State.setJammed_p (s : State) (b : Bool) : (s.setJammed b).p = s.p := rfl
@[simp] theorem State.setJammed_cycles (s : State) (b : Bool) : (s.setJammed b).cycles = s.cycles := rfl
@[simp] theorem State.setJammed_jammed (s : State) (b : Bool) : (s.setJammed b).jammed = b := rfl
@[simp] theorem State.setJammed_ram (s : State) (b : Bool) : (s.setJammed b).ram = s.ram := rfl
@[simp] theorem State.setJammed_trace (s : State) (b : Bool) : (s.setJammed b).trace = s.trace := rfl
@[simp] theorem State.setJammed_session (s : State) (b : Bool) : (s.setJammed b).session = s.session := rfl
@[simp] theorem State.setJammed_acc (s : State) (b : Bool) : (s.setJammed b).acc = s.acc := rfl
@[simp] theorem State.setJammed_ring (s : State) (b : Bool) : (s.setJammed b).ring = s.ring := rfl
@[simp] theorem State.setJammed_producer (s : State) (b : Bool) : (s.setJammed b).producer = s.producer := rfl
@[simp] theorem State.setJammed_consumer (s : State) (b : Bool) : (s.setJammed b).consumer = s.consumer := rfl
@[simp] theorem State.setJammed_params (s : State) (b : Bool) : (s.setJammed b).params = s.params := rfl
@[simp] theorem State.setJammed_draws (s : State) (b : Bool) : (s.setJammed b).draws = s.draws := rfl

@[simp] theorem State.setRam_a (s : State) (m : List Host.Cell) : (s.setRam m).a = s.a := rfl
@[simp] theorem State.setRam_x (s : State) (m : List Host.Cell) : (s.setRam m).x = s.x := rfl
@[simp] theorem State.setRam_y (s : State) (m : List Host.Cell) : (s.setRam m).y = s.y := rfl
@[simp] theorem State.setRam_sp (s : State) (m : List Host.Cell) : (s.setRam m).sp = s.sp := rfl
@[simp] theorem State.setRam_pc (s : State) (m : List Host.Cell) : (s.setRam m).pc = s.pc := rfl
@[simp] theorem State.setRam_p (s : State) (m : List Host.Cell) : (s.setRam m).p = s.p := rfl
@[simp] theorem State.setRam_cycles (s : State) (m : List Host.Cell) : (s.setRam m).cycles = s.cycles := rfl
@[simp] theorem State.setRam_jammed (s : State) (m : List Host.Cell) : (s.setRam m).jammed = s.jammed := rfl
@[simp] theorem State.setRam_ram (s : State) (m : List Host.Cell) : (s.setRam m).ram = m := rfl
@[simp] theorem State.setRam_trace (s : State) (m : List Host.Cell) : (s.setRam m).trace = s.trace := rfl
@[simp] theorem State.setRam_session (s : State) (m : List Host.Cell) : (s.setRam m).session = s.session := rfl
@[simp] theorem State.setRam_acc (s : State) (m : List Host.Cell) : (s.setRam m).acc = s.acc := rfl
@[simp] theorem State.setRam_ring (s : State) (m : List Host.Cell) : (s.setRam m).ring = s.ring := rfl
@[simp] theorem State.setRam_producer (s : State) (m : List Host.Cell) : (s.setRam m).producer = s.producer := rfl
@[simp] theorem State.setRam_consumer (s : State) (m : List Host.Cell) : (s.setRam m).consumer = s.consumer := rfl
@[simp] theorem State.setRam_params (s : State) (m : List Host.Cell) : (s.setRam m).params = s.params := rfl
@[simp] theorem State.setRam_draws (s : State) (m : List Host.Cell) : (s.setRam m).draws = s.draws := rfl

@[simp] theorem State.emit_a (s : State) (e : BusEvent) : (s.emit e).a = s.a := rfl
@[simp] theorem State.emit_x (s : State) (e : BusEvent) : (s.emit e).x = s.x := rfl
@[simp] theorem State.emit_y (s : State) (e : BusEvent) : (s.emit e).y = s.y := rfl
@[simp] theorem State.emit_sp (s : State) (e : BusEvent) : (s.emit e).sp = s.sp := rfl
@[simp] theorem State.emit_pc (s : State) (e : BusEvent) : (s.emit e).pc = s.pc := rfl
@[simp] theorem State.emit_p (s : State) (e : BusEvent) : (s.emit e).p = s.p := rfl
@[simp] theorem State.emit_cycles (s : State) (e : BusEvent) : (s.emit e).cycles = s.cycles := rfl
@[simp] theorem State.emit_jammed (s : State) (e : BusEvent) : (s.emit e).jammed = s.jammed := rfl
@[simp] theorem State.emit_ram (s : State) (e : BusEvent) : (s.emit e).ram = s.ram := rfl
@[simp] theorem State.emit_trace (s : State) (e : BusEvent) : (s.emit e).trace = s.trace ++ [e] := rfl
@[simp] theorem State.emit_session (s : State) (e : BusEvent) : (s.emit e).session = s.session := rfl
@[simp] theorem State.emit_acc (s : State) (e : BusEvent) : (s.emit e).acc = s.acc := rfl
@[simp] theorem State.emit_ring (s : State) (e : BusEvent) : (s.emit e).ring = s.ring := rfl
@[simp] theorem State.emit_producer (s : State) (e : BusEvent) : (s.emit e).producer = s.producer := rfl
@[simp] theorem State.emit_consumer (s : State) (e : BusEvent) : (s.emit e).consumer = s.consumer := rfl
@[simp] theorem State.emit_params (s : State) (e : BusEvent) : (s.emit e).params = s.params := rfl
@[simp] theorem State.emit_draws (s : State) (e : BusEvent) : (s.emit e).draws = s.draws := rfl

@[simp] theorem State.drawOne_a (s : State) : (s.drawOne).a = s.a := rfl
@[simp] theorem State.drawOne_x (s : State) : (s.drawOne).x = s.x := rfl
@[simp] theorem State.drawOne_y (s : State) : (s.drawOne).y = s.y := rfl
@[simp] theorem State.drawOne_sp (s : State) : (s.drawOne).sp = s.sp := rfl
@[simp] theorem State.drawOne_pc (s : State) : (s.drawOne).pc = s.pc := rfl
@[simp] theorem State.drawOne_p (s : State) : (s.drawOne).p = s.p := rfl
@[simp] theorem State.drawOne_cycles (s : State) : (s.drawOne).cycles = s.cycles := rfl
@[simp] theorem State.drawOne_jammed (s : State) : (s.drawOne).jammed = s.jammed := rfl
@[simp] theorem State.drawOne_ram (s : State) : (s.drawOne).ram = s.ram := rfl
@[simp] theorem State.drawOne_trace (s : State) : (s.drawOne).trace = s.trace := rfl
@[simp] theorem State.drawOne_session (s : State) : (s.drawOne).session = s.session := rfl
@[simp] theorem State.drawOne_acc (s : State) : (s.drawOne).acc = s.acc := rfl
@[simp] theorem State.drawOne_ring (s : State) : (s.drawOne).ring = s.ring := rfl
@[simp] theorem State.drawOne_producer (s : State) : (s.drawOne).producer = s.producer := rfl
@[simp] theorem State.drawOne_consumer (s : State) : (s.drawOne).consumer = s.consumer := rfl
@[simp] theorem State.drawOne_params (s : State) : (s.drawOne).params = s.params := rfl
@[simp] theorem State.drawOne_draws (s : State) : (s.drawOne).draws = s.draws + 1 := rfl

@[simp] theorem State.setFlags_a (s : State) (f : Flags) : (s.setFlags f).a = s.a := rfl
@[simp] theorem State.setFlags_x (s : State) (f : Flags) : (s.setFlags f).x = s.x := rfl
@[simp] theorem State.setFlags_y (s : State) (f : Flags) : (s.setFlags f).y = s.y := rfl
@[simp] theorem State.setFlags_sp (s : State) (f : Flags) : (s.setFlags f).sp = s.sp := rfl
@[simp] theorem State.setFlags_pc (s : State) (f : Flags) : (s.setFlags f).pc = s.pc := rfl
@[simp] theorem State.setFlags_p (s : State) (f : Flags) : (s.setFlags f).p = packFlags f := rfl
@[simp] theorem State.setFlags_cycles (s : State) (f : Flags) : (s.setFlags f).cycles = s.cycles := rfl
@[simp] theorem State.setFlags_jammed (s : State) (f : Flags) : (s.setFlags f).jammed = s.jammed := rfl
@[simp] theorem State.setFlags_ram (s : State) (f : Flags) : (s.setFlags f).ram = s.ram := rfl
@[simp] theorem State.setFlags_trace (s : State) (f : Flags) : (s.setFlags f).trace = s.trace := rfl
@[simp] theorem State.setFlags_session (s : State) (f : Flags) : (s.setFlags f).session = s.session := rfl
@[simp] theorem State.setFlags_acc (s : State) (f : Flags) : (s.setFlags f).acc = s.acc := rfl
@[simp] theorem State.setFlags_ring (s : State) (f : Flags) : (s.setFlags f).ring = s.ring := rfl
@[simp] theorem State.setFlags_producer (s : State) (f : Flags) : (s.setFlags f).producer = s.producer := rfl
@[simp] theorem State.setFlags_consumer (s : State) (f : Flags) : (s.setFlags f).consumer = s.consumer := rfl
@[simp] theorem State.setFlags_params (s : State) (f : Flags) : (s.setFlags f).params = s.params := rfl
@[simp] theorem State.setFlags_draws (s : State) (f : Flags) : (s.setFlags f).draws = s.draws := rfl

@[simp] theorem State.pullFlags_a (s : State) (v : Byte) : (s.pullFlags v).a = s.a := rfl
@[simp] theorem State.pullFlags_x (s : State) (v : Byte) : (s.pullFlags v).x = s.x := rfl
@[simp] theorem State.pullFlags_y (s : State) (v : Byte) : (s.pullFlags v).y = s.y := rfl
@[simp] theorem State.pullFlags_sp (s : State) (v : Byte) : (s.pullFlags v).sp = s.sp := rfl
@[simp] theorem State.pullFlags_pc (s : State) (v : Byte) : (s.pullFlags v).pc = s.pc := rfl
@[simp] theorem State.pullFlags_p (s : State) (v : Byte) : (s.pullFlags v).p = (v &&& 0xCF) ||| 0x20 := rfl
@[simp] theorem State.pullFlags_cycles (s : State) (v : Byte) : (s.pullFlags v).cycles = s.cycles := rfl
@[simp] theorem State.pullFlags_jammed (s : State) (v : Byte) : (s.pullFlags v).jammed = s.jammed := rfl
@[simp] theorem State.pullFlags_ram (s : State) (v : Byte) : (s.pullFlags v).ram = s.ram := rfl
@[simp] theorem State.pullFlags_trace (s : State) (v : Byte) : (s.pullFlags v).trace = s.trace := rfl
@[simp] theorem State.pullFlags_session (s : State) (v : Byte) : (s.pullFlags v).session = s.session := rfl
@[simp] theorem State.pullFlags_acc (s : State) (v : Byte) : (s.pullFlags v).acc = s.acc := rfl
@[simp] theorem State.pullFlags_ring (s : State) (v : Byte) : (s.pullFlags v).ring = s.ring := rfl
@[simp] theorem State.pullFlags_producer (s : State) (v : Byte) : (s.pullFlags v).producer = s.producer := rfl
@[simp] theorem State.pullFlags_consumer (s : State) (v : Byte) : (s.pullFlags v).consumer = s.consumer := rfl
@[simp] theorem State.pullFlags_params (s : State) (v : Byte) : (s.pullFlags v).params = s.params := rfl
@[simp] theorem State.pullFlags_draws (s : State) (v : Byte) : (s.pullFlags v).draws = s.draws := rfl

@[simp] theorem State.setStatus_a (s : State) (st : Status) : (s.setStatus st).a = s.a := rfl
@[simp] theorem State.setStatus_x (s : State) (st : Status) : (s.setStatus st).x = s.x := rfl
@[simp] theorem State.setStatus_y (s : State) (st : Status) : (s.setStatus st).y = s.y := rfl
@[simp] theorem State.setStatus_sp (s : State) (st : Status) : (s.setStatus st).sp = s.sp := rfl
@[simp] theorem State.setStatus_pc (s : State) (st : Status) : (s.setStatus st).pc = s.pc := rfl
@[simp] theorem State.setStatus_p (s : State) (st : Status) : (s.setStatus st).p = s.p := rfl
@[simp] theorem State.setStatus_cycles (s : State) (st : Status) : (s.setStatus st).cycles = s.cycles := rfl
@[simp] theorem State.setStatus_jammed (s : State) (st : Status) : (s.setStatus st).jammed = s.jammed := rfl
@[simp] theorem State.setStatus_ram (s : State) (st : Status) : (s.setStatus st).ram = s.ram := rfl
@[simp] theorem State.setStatus_trace (s : State) (st : Status) : (s.setStatus st).trace = s.trace := rfl
@[simp] theorem State.setStatus_session (s : State) (st : Status) : (s.setStatus st).session = { s.session with status := st } := rfl
@[simp] theorem State.setStatus_acc (s : State) (st : Status) : (s.setStatus st).acc = s.acc := rfl
@[simp] theorem State.setStatus_ring (s : State) (st : Status) : (s.setStatus st).ring = s.ring := rfl
@[simp] theorem State.setStatus_producer (s : State) (st : Status) : (s.setStatus st).producer = s.producer := rfl
@[simp] theorem State.setStatus_consumer (s : State) (st : Status) : (s.setStatus st).consumer = s.consumer := rfl
@[simp] theorem State.setStatus_params (s : State) (st : Status) : (s.setStatus st).params = s.params := rfl
@[simp] theorem State.setStatus_draws (s : State) (st : Status) : (s.setStatus st).draws = s.draws := rfl

@[simp] theorem State.mapFile_a (s : State) (f : SongFile) : (s.mapFile f).a = s.a := rfl
@[simp] theorem State.mapFile_x (s : State) (f : SongFile) : (s.mapFile f).x = s.x := rfl
@[simp] theorem State.mapFile_y (s : State) (f : SongFile) : (s.mapFile f).y = s.y := rfl
@[simp] theorem State.mapFile_sp (s : State) (f : SongFile) : (s.mapFile f).sp = s.sp := rfl
@[simp] theorem State.mapFile_pc (s : State) (f : SongFile) : (s.mapFile f).pc = s.pc := rfl
@[simp] theorem State.mapFile_p (s : State) (f : SongFile) : (s.mapFile f).p = s.p := rfl
@[simp] theorem State.mapFile_cycles (s : State) (f : SongFile) : (s.mapFile f).cycles = s.cycles := rfl
@[simp] theorem State.mapFile_jammed (s : State) (f : SongFile) : (s.mapFile f).jammed = s.jammed := rfl
@[simp] theorem State.mapFile_ram (s : State) (f : SongFile) : (s.mapFile f).ram = s.ram := rfl
@[simp] theorem State.mapFile_trace (s : State) (f : SongFile) : (s.mapFile f).trace = s.trace := rfl
@[simp] theorem State.mapFile_session (s : State) (f : SongFile) : (s.mapFile f).session = s.session := rfl
@[simp] theorem State.mapFile_acc (s : State) (f : SongFile) : (s.mapFile f).acc = s.acc := rfl
@[simp] theorem State.mapFile_ring (s : State) (f : SongFile) : (s.mapFile f).ring = s.ring := rfl
@[simp] theorem State.mapFile_producer (s : State) (f : SongFile) : (s.mapFile f).producer = s.producer := rfl
@[simp] theorem State.mapFile_consumer (s : State) (f : SongFile) : (s.mapFile f).consumer = s.consumer := rfl
@[simp] theorem State.mapFile_params (s : State) (f : SongFile) : (s.mapFile f).params = { s.params with file := f } := rfl
@[simp] theorem State.mapFile_draws (s : State) (f : SongFile) : (s.mapFile f).draws = s.draws := rfl

@[simp] theorem setNZ_a (v : Byte) (s : State) : (setNZ v s).a = s.a := rfl
@[simp] theorem setNZ_x (v : Byte) (s : State) : (setNZ v s).x = s.x := rfl
@[simp] theorem setNZ_y (v : Byte) (s : State) : (setNZ v s).y = s.y := rfl
@[simp] theorem setNZ_sp (v : Byte) (s : State) : (setNZ v s).sp = s.sp := rfl
@[simp] theorem setNZ_pc (v : Byte) (s : State) : (setNZ v s).pc = s.pc := rfl
@[simp] theorem setNZ_p (v : Byte) (s : State) : (setNZ v s).p = packFlags { s.flags with n := v.getLsbD 7, z := v == 0x00 } := rfl
@[simp] theorem setNZ_cycles (v : Byte) (s : State) : (setNZ v s).cycles = s.cycles := rfl
@[simp] theorem setNZ_jammed (v : Byte) (s : State) : (setNZ v s).jammed = s.jammed := rfl
@[simp] theorem setNZ_ram (v : Byte) (s : State) : (setNZ v s).ram = s.ram := rfl
@[simp] theorem setNZ_trace (v : Byte) (s : State) : (setNZ v s).trace = s.trace := rfl
@[simp] theorem setNZ_session (v : Byte) (s : State) : (setNZ v s).session = s.session := rfl
@[simp] theorem setNZ_acc (v : Byte) (s : State) : (setNZ v s).acc = s.acc := rfl
@[simp] theorem setNZ_ring (v : Byte) (s : State) : (setNZ v s).ring = s.ring := rfl
@[simp] theorem setNZ_producer (v : Byte) (s : State) : (setNZ v s).producer = s.producer := rfl
@[simp] theorem setNZ_consumer (v : Byte) (s : State) : (setNZ v s).consumer = s.consumer := rfl
@[simp] theorem setNZ_params (v : Byte) (s : State) : (setNZ v s).params = s.params := rfl
@[simp] theorem setNZ_draws (v : Byte) (s : State) : (setNZ v s).draws = s.draws := rfl

@[simp] theorem setC_a (b : Bool) (s : State) : (setC b s).a = s.a := rfl
@[simp] theorem setC_x (b : Bool) (s : State) : (setC b s).x = s.x := rfl
@[simp] theorem setC_y (b : Bool) (s : State) : (setC b s).y = s.y := rfl
@[simp] theorem setC_sp (b : Bool) (s : State) : (setC b s).sp = s.sp := rfl
@[simp] theorem setC_pc (b : Bool) (s : State) : (setC b s).pc = s.pc := rfl
@[simp] theorem setC_p (b : Bool) (s : State) : (setC b s).p = packFlags { s.flags with c := b } := rfl
@[simp] theorem setC_cycles (b : Bool) (s : State) : (setC b s).cycles = s.cycles := rfl
@[simp] theorem setC_jammed (b : Bool) (s : State) : (setC b s).jammed = s.jammed := rfl
@[simp] theorem setC_ram (b : Bool) (s : State) : (setC b s).ram = s.ram := rfl
@[simp] theorem setC_trace (b : Bool) (s : State) : (setC b s).trace = s.trace := rfl
@[simp] theorem setC_session (b : Bool) (s : State) : (setC b s).session = s.session := rfl
@[simp] theorem setC_acc (b : Bool) (s : State) : (setC b s).acc = s.acc := rfl
@[simp] theorem setC_ring (b : Bool) (s : State) : (setC b s).ring = s.ring := rfl
@[simp] theorem setC_producer (b : Bool) (s : State) : (setC b s).producer = s.producer := rfl
@[simp] theorem setC_consumer (b : Bool) (s : State) : (setC b s).consumer = s.consumer := rfl
@[simp] theorem setC_params (b : Bool) (s : State) : (setC b s).params = s.params := rfl
@[simp] theorem setC_draws (b : Bool) (s : State) : (setC b s).draws = s.draws := rfl

@[simp] theorem setV_a (b : Bool) (s : State) : (setV b s).a = s.a := rfl
@[simp] theorem setV_x (b : Bool) (s : State) : (setV b s).x = s.x := rfl
@[simp] theorem setV_y (b : Bool) (s : State) : (setV b s).y = s.y := rfl
@[simp] theorem setV_sp (b : Bool) (s : State) : (setV b s).sp = s.sp := rfl
@[simp] theorem setV_pc (b : Bool) (s : State) : (setV b s).pc = s.pc := rfl
@[simp] theorem setV_p (b : Bool) (s : State) : (setV b s).p = packFlags { s.flags with v := b } := rfl
@[simp] theorem setV_cycles (b : Bool) (s : State) : (setV b s).cycles = s.cycles := rfl
@[simp] theorem setV_jammed (b : Bool) (s : State) : (setV b s).jammed = s.jammed := rfl
@[simp] theorem setV_ram (b : Bool) (s : State) : (setV b s).ram = s.ram := rfl
@[simp] theorem setV_trace (b : Bool) (s : State) : (setV b s).trace = s.trace := rfl
@[simp] theorem setV_session (b : Bool) (s : State) : (setV b s).session = s.session := rfl
@[simp] theorem setV_acc (b : Bool) (s : State) : (setV b s).acc = s.acc := rfl
@[simp] theorem setV_ring (b : Bool) (s : State) : (setV b s).ring = s.ring := rfl
@[simp] theorem setV_producer (b : Bool) (s : State) : (setV b s).producer = s.producer := rfl
@[simp] theorem setV_consumer (b : Bool) (s : State) : (setV b s).consumer = s.consumer := rfl
@[simp] theorem setV_params (b : Bool) (s : State) : (setV b s).params = s.params := rfl
@[simp] theorem setV_draws (b : Bool) (s : State) : (setV b s).draws = s.draws := rfl

@[simp] theorem setD_a (b : Bool) (s : State) : (setD b s).a = s.a := rfl
@[simp] theorem setD_x (b : Bool) (s : State) : (setD b s).x = s.x := rfl
@[simp] theorem setD_y (b : Bool) (s : State) : (setD b s).y = s.y := rfl
@[simp] theorem setD_sp (b : Bool) (s : State) : (setD b s).sp = s.sp := rfl
@[simp] theorem setD_pc (b : Bool) (s : State) : (setD b s).pc = s.pc := rfl
@[simp] theorem setD_p (b : Bool) (s : State) : (setD b s).p = packFlags { s.flags with d := b } := rfl
@[simp] theorem setD_cycles (b : Bool) (s : State) : (setD b s).cycles = s.cycles := rfl
@[simp] theorem setD_jammed (b : Bool) (s : State) : (setD b s).jammed = s.jammed := rfl
@[simp] theorem setD_ram (b : Bool) (s : State) : (setD b s).ram = s.ram := rfl
@[simp] theorem setD_trace (b : Bool) (s : State) : (setD b s).trace = s.trace := rfl
@[simp] theorem setD_session (b : Bool) (s : State) : (setD b s).session = s.session := rfl
@[simp] theorem setD_acc (b : Bool) (s : State) : (setD b s).acc = s.acc := rfl
@[simp] theorem setD_ring (b : Bool) (s : State) : (setD b s).ring = s.ring := rfl
@[simp] theorem setD_producer (b : Bool) (s : State) : (setD b s).producer = s.producer := rfl
@[simp] theorem setD_consumer (b : Bool) (s : State) : (setD b s).consumer = s.consumer := rfl
@[simp] theorem setD_params (b : Bool) (s : State) : (setD b s).params = s.params := rfl
@[simp] theorem setD_draws (b : Bool) (s : State) : (setD b s).draws = s.draws := rfl

@[simp] theorem setI_a (b : Bool) (s : State) : (setI b s).a = s.a := rfl
@[simp] theorem setI_x (b : Bool) (s : State) : (setI b s).x = s.x := rfl
@[simp] theorem setI_y (b : Bool) (s : State) : (setI b s).y = s.y := rfl
@[simp] theorem setI_sp (b : Bool) (s : State) : (setI b s).sp = s.sp := rfl
@[simp] theorem setI_pc (b : Bool) (s : State) : (setI b s).pc = s.pc := rfl
@[simp] theorem setI_p (b : Bool) (s : State) : (setI b s).p = packFlags { s.flags with i := b } := rfl
@[simp] theorem setI_cycles (b : Bool) (s : State) : (setI b s).cycles = s.cycles := rfl
@[simp] theorem setI_jammed (b : Bool) (s : State) : (setI b s).jammed = s.jammed := rfl
@[simp] theorem setI_ram (b : Bool) (s : State) : (setI b s).ram = s.ram := rfl
@[simp] theorem setI_trace (b : Bool) (s : State) : (setI b s).trace = s.trace := rfl
@[simp] theorem setI_session (b : Bool) (s : State) : (setI b s).session = s.session := rfl
@[simp] theorem setI_acc (b : Bool) (s : State) : (setI b s).acc = s.acc := rfl
@[simp] theorem setI_ring (b : Bool) (s : State) : (setI b s).ring = s.ring := rfl
@[simp] theorem setI_producer (b : Bool) (s : State) : (setI b s).producer = s.producer := rfl
@[simp] theorem setI_consumer (b : Bool) (s : State) : (setI b s).consumer = s.consumer := rfl
@[simp] theorem setI_params (b : Bool) (s : State) : (setI b s).params = s.params := rfl
@[simp] theorem setI_draws (b : Bool) (s : State) : (setI b s).draws = s.draws := rfl

end Sys2Proof.Machine
end

