-- ==== Sys2Proof/Laws/Flags.lean ====
section
/-!
SUPPORT. The flags and the byte P: packing and reading back, the fixed bits, and each flag computation in numbers.
-/

namespace Sys2Proof.Machine

@[simp] theorem flagsOf_packFlags (f : Flags) : flagsOf (packFlags f) = f := by
  obtain ⟨n, v, d, i, z, c⟩ := f
  cases n <;> cases v <;> cases d <;> cases i <;> cases z <;> cases c <;> decide

/-- R41, R42: a packed P has R set and B clear. -/
theorem packFlags_ok (f : Flags) : StatusOk (packFlags f) := by
  obtain ⟨n, v, d, i, z, c⟩ := f
  cases n <;> cases v <;> cases d <;> cases i <;> cases z <;> cases c <;> decide

/-- D1: what PLP and RTI leave in P is the packed form of the flags of the byte pulled. -/
theorem pulled_eq_packFlags (v : Byte) : (v &&& 0xCF) ||| 0x20 = packFlags (flagsOf v) := by
  revert v; decide

theorem pulled_ok (v : Byte) : StatusOk ((v &&& 0xCF) ||| 0x20) := by
  rw [pulled_eq_packFlags]; exact packFlags_ok _

/-- A P with its fixed bits is the packed form of its flags. -/
theorem packFlags_flagsOf {p : Byte} (h : StatusOk p) : packFlags (flagsOf p) = p := by
  revert p; decide

@[simp] theorem State.flags_setFlags (s : State) (f : Flags) : (s.setFlags f).flags = f := by
  simp [State.flags]

@[simp] theorem State.flags_setNZ (v : Byte) (s : State) :
    (setNZ v s).flags = { s.flags with n := v.getLsbD 7, z := v == 0x00 } := by simp [setNZ]

@[simp] theorem State.flags_setC (b : Bool) (s : State) : (setC b s).flags = { s.flags with c := b } := by simp [setC]

@[simp] theorem State.flags_setV (b : Bool) (s : State) : (setV b s).flags = { s.flags with v := b } := by simp [setV]

@[simp] theorem State.flags_setD (b : Bool) (s : State) : (setD b s).flags = { s.flags with d := b } := by simp [setD]

@[simp] theorem State.flags_setI (b : Bool) (s : State) : (setI b s).flags = { s.flags with i := b } := by simp [setI]

/-- R13: bit 7 is the sign bit. -/
theorem bit7_eq (v : Byte) : v.getLsbD 7 = decide (128 ≤ v.toNat) := by revert v; decide

theorem beq_zero_eq (v : Byte) : (v == 0x00) = decide (v.toNat = 0) := by revert v; decide

/-- R13: the flags of `setNZ`, in numbers. -/
theorem setNZ_flags (v : Byte) (s : State) : (setNZ v s).flags = nzOf v s.flags := by
  simp only [State.flags_setNZ, nzOf, bit7_eq, beq_zero_eq]

theorem setNZ_p_eq (v : Byte) (s : State) : (setNZ v s).p = packFlags (nzOf v s.flags) := by
  simp only [setNZ_p, nzOf, bit7_eq, beq_zero_eq]

/-- R251: the flags of `compare`, in numbers. -/
theorem compare_p_eq (r m : Byte) (s : State) : (compare r m s).p = packFlags (compareFlags r m s.flags) := by
  have h1 : (r - m).getLsbD 7 = decide (128 ≤ (r.toNat + 256 - m.toNat) % 256) := by
    rw [bit7_eq, BitVec.toNat_sub]
    congr 1
    have := m.isLt
    simp only [Nat.reducePow] at *
    rw [show 256 - m.toNat + r.toNat = r.toNat + 256 - m.toNat by omega]
  have h2 : (r == m) = decide (r.toNat = m.toNat) := by
    rw [beq_eq_decide]
    exact decide_eq_decide.2 BitVec.toNat_eq
  simp only [compare, State.setFlags_p, compareFlags, h1, h2, BitVec.le_def]

end Sys2Proof.Machine
end

