-- ==== Sys2Proof/Laws/Memory.lean ====
section
/-!
SUPPORT. What reads and writes of a memory do: a read after a write gives the byte written, there and nowhere else, and every operation
keeps the canonical form and the bound on the indices.
-/

namespace Sys2Proof.Machine

theorem Memory.read_erase (m : List Host.Cell) (i j : Nat) :
    Memory.read (Memory.erase m i) j = if j = i then Memory.unlisted else Memory.read m j := by
  induction m with
  | nil => simp [Memory.erase, Memory.read]
  | cons c rest ih =>
    obtain ⟨k, u⟩ := c
    by_cases hk : k = i <;> simp_all [Memory.erase, Memory.read]
    · split_ifs with h1 h2 <;> simp_all
    · split_ifs <;> simp_all

theorem Memory.read_insert (m : List Host.Cell) (i j : Nat) (v : Byte) (h : ∀ c ∈ m, c.1 ≠ i) :
    Memory.read (Memory.insert m i v) j = if j = i then v else Memory.read m j := by
  induction m with
  | nil => simp [Memory.insert, Memory.read, eq_comm]
  | cons c rest ih =>
    obtain ⟨k, u⟩ := c
    have hk : k ≠ i := h (k, u) (by simp)
    have ih := ih (fun c hc => h c (by simp [hc]))
    by_cases hlt : i < k
    · simp [Memory.insert, hlt, Memory.read, eq_comm]
    · simp only [Memory.insert, hlt, if_false, Memory.read, ih]
      split_ifs <;> simp_all

/-- The basic law: the byte written is read back at its index, and every other index reads as before. -/
theorem Memory.read_write (m : List Host.Cell) (i j : Nat) (v : Byte) :
    Memory.read (Memory.write m i v) j = if j = i then v else Memory.read m j := by
  unfold Memory.write
  split
  · next h => rw [Memory.read_erase, h]
  · rw [Memory.read_insert _ _ _ _ (by simp [Memory.erase]), Memory.read_erase]
    split <;> rfl

theorem Memory.insert_mem (m : List Host.Cell) (i : Nat) (v : Byte) (c : Host.Cell) :
    c ∈ Memory.insert m i v ↔ c = (i, v) ∨ c ∈ m := by
  induction m with
  | nil => simp [Memory.insert]
  | cons d rest ih =>
    by_cases hlt : i < d.1
    · simp [Memory.insert, hlt]
    · simp [Memory.insert, hlt, ih]
      tauto

theorem Memory.insert_sorted (m : List Host.Cell) (i : Nat) (v : Byte) (h : ∀ c ∈ m, c.1 ≠ i)
    (hs : m.Pairwise (fun c d => c.1 < d.1)) : (Memory.insert m i v).Pairwise (fun c d => c.1 < d.1) := by
  induction m with
  | nil => simp [Memory.insert]
  | cons c rest ih =>
    obtain ⟨hc, hr⟩ := List.pairwise_cons.1 hs
    have hne : c.1 ≠ i := h c (by simp)
    by_cases hlt : i < c.1
    · simp only [Memory.insert, hlt, if_true, List.pairwise_cons]
      exact ⟨by rintro d hd; rcases List.mem_cons.1 hd with rfl | hd; exacts [hlt, lt_trans hlt (hc d hd)], hc, hr⟩
    · simp only [Memory.insert, hlt, if_false, List.pairwise_cons]
      refine ⟨fun d hd => ?_, ih (fun d hd => h d (by simp [hd])) hr⟩
      rcases (Memory.insert_mem _ _ _ _).1 hd with rfl | hd
      · exact lt_of_le_of_ne (not_lt.1 hlt) hne
      · exact hc d hd

/-- A write keeps the canonical form. -/
theorem Memory.write_wf {m : List Host.Cell} (h : Memory.wf m) (i : Nat) (v : Byte) : Memory.wf (Memory.write m i v) := by
  have he : Memory.wf (Memory.erase m i) :=
    ⟨h.1.sublist List.filter_sublist, fun c hc => h.2 c (List.mem_of_mem_filter hc)⟩
  unfold Memory.write
  split
  · exact he
  · next hv =>
    refine ⟨Memory.insert_sorted _ _ _ (by simp [Memory.erase]) he.1, fun c hc => ?_⟩
    rcases (Memory.insert_mem _ _ _ _).1 hc with rfl | hc
    · exact hv
    · exact he.2 c hc

/-- A write at an index below the bound keeps the bound. -/
theorem Memory.write_below {m : List Host.Cell} {n i : Nat} (h : Memory.below n m) (hi : i < n) (v : Byte) :
    Memory.below n (Memory.write m i v) := by
  have he : Memory.below n (Memory.erase m i) := fun c hc => h c (List.mem_of_mem_filter hc)
  unfold Memory.write
  split
  · exact he
  · intro c hc
    rcases (Memory.insert_mem _ _ _ _).1 hc with rfl | hc
    · exact hi
    · exact he c hc

theorem Memory.wf_nil : Memory.wf [] := ⟨List.Pairwise.nil, by simp⟩

end Sys2Proof.Machine
end

