-- ==== Sys2Proof/Laws/Ops.lean ====
section
/-!
SUPPORT. The bus and the stack: each access as one record update, where it falls, and what it leaves alone. Page zero and the stack page are
RAM, so an access there is never an event.
-/

namespace Sys2Proof.Machine

/-- The byte a bus read of `a` answers. -/
def busByte (a : Addr) (s : State) : Byte := (read8 a s).1

/-- R70: below $2000 is RAM, whatever the parameters. -/
theorem region_ram {p : Params} {a : Addr} (h : a < 0x2000) : region p a = .ram (a &&& 0x07FF).toNat := by
  unfold region
  rw [if_pos h]

/-- R70: only addresses below $2000 are RAM. -/
theorem region_ram_lt {p : Params} {a : Addr} {i : Nat} (h : region p a = .ram i) : a < 0x2000 := by
  unfold region at h
  split_ifs at h with h1
  exact h1

/-- R71: a RAM index is below 2048. -/
theorem region_ram_bound {p : Params} {a : Addr} {i : Nat} (h : region p a = .ram i) : i < 2048 := by
  rw [region_ram (region_ram_lt h)] at h
  cases h
  exact lt_of_le_of_lt (BitVec.toNat_and _ _ ▸ Nat.and_le_right) (by decide)

/-- R71: the RAM index of an address is the address mod 2048. -/
theorem ramIndex_eq (a : Addr) : (a &&& 0x07FF).toNat = a.toNat % 2048 := by
  rw [BitVec.toNat_and]
  exact Nat.and_two_pow_sub_one_eq_mod a.toNat 11

/-- R163: page zero is RAM. -/
theorem zeroPage_lt (z : Byte) : z.setWidth 16 < (0x2000 : Addr) := by revert z; decide

theorem region_zeroPage (p : Params) (z : Byte) : region p (z.setWidth 16) = .ram z.toNat := by
  rw [region_ram (zeroPage_lt z), ramIndex_eq]
  congr 1
  revert z; decide

/-- R12: the stack page is RAM. -/
theorem region_stack (p : Params) (v : Byte) : region p (stackAddr v) = .ram (256 + v.toNat) := by
  have h : stackAddr v < (0x2000 : Addr) := by revert v; decide
  rw [region_ram h, ramIndex_eq]
  congr 1
  revert v; decide

/-- A read outside the register window leaves the state as it is. -/
theorem read8_quiet {a : Addr} {s : State} (h : region s.params a ≠ .registers) : (read8 a s).2 = s := by
  unfold read8
  split <;> simp_all

/-- Everything a read does: it answers a byte; in the register window it is an event and counts a draw. -/
theorem read8_eq (a : Addr) (s : State) :
    read8 a s = (busByte a s, { s with
      trace := s.trace ++ readEvents s.params a (busByte a s)
      draws := s.draws + (readEvents s.params a (busByte a s)).length }) := by
  unfold busByte read8 readEvents
  split <;> simp_all [State.emit, State.drawOne]

/-- A read outside the register window answers the byte of memory there. -/
theorem busByte_of_peek {a : Addr} {s : State} {b : Byte} (h : peek s a = some b) : busByte a s = b := by
  unfold peek at h
  unfold busByte read8
  split at h <;> simp_all

theorem region_ne_registers_of_peek {a : Addr} {s : State} {b : Byte} (h : peek s a = some b) :
    region s.params a ≠ .registers := by
  unfold peek at h
  split at h <;> simp_all

theorem read8_of_peek {a : Addr} {s : State} {b : Byte} (h : peek s a = some b) : read8 a s = (b, s) :=
  Prod.ext (busByte_of_peek h) (read8_quiet (region_ne_registers_of_peek h))

theorem read8_ram {a : Addr} {s : State} {i : Nat} (h : region s.params a = .ram i) :
    read8 a s = (Memory.read s.ram i, s) := by simp [read8, h]

/-- Everything a write does: below $2000 it stores; in the register window it is an event. -/
theorem write8_eq (a : Addr) (v : Byte) (s : State) :
    write8 a v s = { s with
      ram := if a < 0x2000 then Memory.write s.ram (a &&& 0x07FF).toNat v else s.ram
      trace := s.trace ++ writeEvents s.params a v } := by
  unfold write8 writeEvents
  by_cases h : a < 0x2000
  · rw [if_pos h, region_ram h]
    simp [State.setRam]
  · rw [if_neg h]
    split
    · exact absurd (region_ram_lt (by assumption)) h
    all_goals simp_all [State.emit]

/-- Two states with the same memory and the same parameters have the same bytes of memory. -/
theorem peek_congr {s t : State} (hr : t.ram = s.ram) (hp : t.params = s.params) (b : Addr) : peek t b = peek s b := by
  simp [peek, hr, hp]

theorem keepsMemory_of_eq {s t : State} (hr : t.ram = s.ram) (hp : t.params = s.params) : KeepsMemory s t :=
  fun b => peek_congr hr hp b

/-- Two RAM addresses name one byte exactly when their indices are the same. -/
theorem peek_write8 (a : Addr) (v : Byte) (s : State) : StoresAt a v s (write8 a v s) := by
  intro b
  rw [write8_eq]
  by_cases h : a < 0x2000
  · unfold peek
    rw [if_pos h]
    simp only [h, true_and, region_ram h]
    split
    · next i hi => rw [hi, Memory.read_write]; split_ifs <;> simp_all
    all_goals simp_all
  · simp only [h, false_and, if_false]
    rfl

/-- What a state holds at a stack address. -/
theorem read8_stack (v : Byte) (s : State) : read8 (stackAddr v) s = (Memory.read s.ram (256 + v.toNat), s) :=
  read8_ram (region_stack _ _)

theorem read8_zeroPage (z : Byte) (s : State) : read8 (z.setWidth 16) s = (Memory.read s.ram z.toNat, s) :=
  read8_ram (region_zeroPage _ _)

theorem write8_stack (v b : Byte) (s : State) :
    write8 (stackAddr v) b s = { s with ram := Memory.write s.ram (256 + v.toNat) b } := by
  simp [write8, region_stack, State.setRam]

theorem write8_zeroPage (z b : Byte) (s : State) :
    write8 (z.setWidth 16) b s = { s with ram := Memory.write s.ram z.toNat b } := by
  simp [write8, region_zeroPage, State.setRam]

/-- Everything a push does. -/
theorem push8_eq (v : Byte) (s : State) :
    push8 v s = { s with ram := Memory.write s.ram (256 + s.sp.toNat) v, sp := s.sp - 1 } := by
  simp [push8, write8_stack, State.setSP]

/-- Everything a pull does. -/
theorem pull8_eq (s : State) : pull8 s = (Memory.read s.ram (256 + (s.sp + 1).toNat), { s with sp := s.sp + 1 }) := by
  simp [pull8, read8_stack, State.setSP]

theorem push16_eq (w : Addr) (s : State) :
    push16 w s = { s with
      ram := Memory.write (Memory.write s.ram (256 + s.sp.toNat) (hi w)) (256 + (s.sp - 1).toNat) (lo w)
      sp := s.sp - 2 } := by
  simp only [push16, push8_eq]
  congr 1
  bv_omega

theorem pull16_eq (s : State) :
    pull16 s =
      (wordOf (Memory.read s.ram (256 + (s.sp + 1).toNat)) (Memory.read s.ram (256 + (s.sp + 2).toNat)),
        { s with sp := s.sp + 2 }) := by
  simp only [pull16, pull8_eq]
  have : s.sp + 1 + 1 = s.sp + 2 := by bv_omega
  rw [this]

theorem wordOf_toNat (l h : Byte) : (wordOf l h).toNat = l.toNat + 256 * h.toNat := by
  simp only [wordOf, BitVec.toNat_append]
  rw [Nat.shiftLeft_eq, Nat.mul_comm, ← Nat.two_pow_add_eq_or_of_lt l.isLt]
  omega

theorem hi_toNat (w : Addr) : (hi w).toNat = w.toNat / 256 := by
  simp only [hi, BitVec.toNat_setWidth, BitVec.toNat_ushiftRight, Nat.shiftRight_eq_div_pow]
  have := w.isLt
  omega

theorem lo_toNat (w : Addr) : (lo w).toNat = w.toNat % 256 := by simp [lo]

/-- R9: the bytes of a word and the word of two bytes are inverse. -/
@[simp] theorem wordOf_lo_hi (w : Addr) : wordOf (lo w) (hi w) = w := by
  apply BitVec.eq_of_toNat_eq
  rw [wordOf_toNat, hi_toNat, lo_toNat]
  omega

@[simp] theorem lo_wordOf (l h : Byte) : lo (wordOf l h) = l := by
  apply BitVec.eq_of_toNat_eq
  rw [lo_toNat, wordOf_toNat]
  omega

@[simp] theorem hi_wordOf (l h : Byte) : hi (wordOf l h) = h := by
  apply BitVec.eq_of_toNat_eq
  rw [hi_toNat, wordOf_toNat]
  omega

/-- Everything reading a word does: two reads, in address order. -/
theorem read16_fst (a : Addr) (s : State) :
    (read16 a s).1 = wordOf (read8 a s).1 (read8 (a + 1) (read8 a s).2).1 := rfl

theorem read16_snd (a : Addr) (s : State) : (read16 a s).2 = (read8 (a + 1) (read8 a s).2).2 := rfl

/-- A bus read changes the trace and the draw counter only. -/
theorem read8_frame (a : Addr) (s : State) :
    (read8 a s).2 = { s with trace := (read8 a s).2.trace, draws := (read8 a s).2.draws } := by
  rw [read8_eq]

theorem read16_frame (a : Addr) (s : State) :
    (read16 a s).2 = { s with trace := (read16 a s).2.trace, draws := (read16 a s).2.draws } := by
  rw [read16_snd, read8_frame, read8_frame a s]

/-- What a bus read answers depends on RAM, the parameters and the draw counter alone. -/
theorem busByte_congr {s t : State} (hr : t.ram = s.ram) (hp : t.params = s.params) (hd : t.draws = s.draws) (a : Addr) :
    busByte a t = busByte a s := by
  simp only [busByte, read8, hr, hp, hd]
  split <;> rfl

/-- Above RAM a read does not look at RAM: what it answers, and its event, depend on the parameters, the trace and the draw counter. -/
theorem read8_high {a : Addr} (h : ¬a < 0x2000) {s t : State} (hp : t.params = s.params) (ht : t.trace = s.trace)
    (hd : t.draws = s.draws) :
    read8 a t = ((read8 a s).1, { t with trace := (read8 a s).2.trace, draws := (read8 a s).2.draws }) := by
  obtain ⟨ta, tx, ty, tsp, tpc, tp, tc, tj, tr, tt, te, tacc, tg, tq, tk, tpar, td⟩ := t
  simp only at hp ht hd
  subst hp ht hd
  unfold read8
  cases hr : region s.params a with
  | ram i => exact absurd (region_ram_lt hr) h
  | registers => rfl
  | rom off => rfl
  | sram => rfl
  | unmapped => rfl

theorem read16_high {a : Addr} (h : ¬a < 0x2000) (h' : ¬a + 1 < 0x2000) {s t : State} (hp : t.params = s.params)
    (ht : t.trace = s.trace) (hd : t.draws = s.draws) :
    read16 a t = ((read16 a s).1, { t with trace := (read16 a s).2.trace, draws := (read16 a s).2.draws }) := by
  have h1 := read8_high h hp ht hd
  have hf : (read8 a s).2.params = s.params := by rw [read8_frame]
  have h2 : read8 (a + 1) (read8 a t).2 = _ :=
    read8_high (s := (read8 a s).2) h' (by rw [h1, hf]; exact hp) (by rw [h1]) (by rw [h1])
  refine Prod.ext ?_ ?_
  · rw [read16_fst, read16_fst, h2, h1]
  · rw [read16_snd, h2, h1]; rfl

/-- Everything taking an interrupt or BRK does, through a vector above RAM. -/
theorem enter_eq (ret : Addr) (image : Byte) {vector : Addr} (h : ¬vector < 0x2000) (h' : ¬vector + 1 < 0x2000) (s : State) :
    enter ret image vector s = { s with
      sp := s.sp - 3
      p := packFlags { s.flags with i := true }
      pc := (read16 vector s).1
      ram := Memory.write (Memory.write (Memory.write s.ram (256 + s.sp.toNat) (hi ret)) (256 + (s.sp - 1).toNat) (lo ret))
        (256 + (s.sp - 2).toNat) image
      trace := (read16 vector s).2.trace
      draws := (read16 vector s).2.draws } := by
  have hs : s.sp - 2 - 1 = s.sp - 3 := by bv_omega
  unfold enter
  rw [push16_eq, push8_eq]
  simp only [hs]
  have hk : ∀ u : State, u.params = s.params → u.trace = s.trace → u.draws = s.draws →
      (read16 vector u).2.setPC (read16 vector u).1 =
        { u with pc := (read16 vector s).1, trace := (read16 vector s).2.trace, draws := (read16 vector s).2.draws } := by
    intro u hp ht hd
    rw [read16_high h h' hp ht hd]
    rfl
  exact hk (setI true _) rfl rfl rfl

/-- Everything the return from an interrupt does. -/
theorem leave_eq (s : State) :
    leave s = { s with
      sp := s.sp + 3
      p := (Memory.read s.ram (256 + (s.sp + 1).toNat) &&& 0xCF) ||| 0x20
      pc := wordOf (Memory.read s.ram (256 + (s.sp + 2).toNat)) (Memory.read s.ram (256 + (s.sp + 3).toNat)) } := by
  have h2 : s.sp + 1 + 1 = s.sp + 2 := by bv_omega
  have h3 : s.sp + 1 + 2 = s.sp + 3 := by bv_omega
  unfold leave
  rw [pull8_eq]
  simp only [State.pullFlags, pull16_eq, h2, h3]
  rfl

/-- A RAM index that two pushes in a row use is not the same, nor any of three. -/
theorem stack_slots_differ (v : Byte) :
    256 + v.toNat ≠ 256 + (v - 1).toNat ∧ 256 + v.toNat ≠ 256 + (v - 2).toNat ∧
      256 + (v - 1).toNat ≠ 256 + (v - 2).toNat := by
  revert v; decide

/-- The bytes of memory after a word is pushed. -/
theorem pushesWord_of {s t : State} {w : Addr} (hp : t.params = s.params)
    (hr : t.ram = Memory.write (Memory.write s.ram (256 + s.sp.toNat) (hi w)) (256 + (s.sp - 1).toNat) (lo w)) :
    PushesWord w s t := by
  intro b
  simp only [sameByte, region_stack]
  unfold peek
  rw [hr, hp]
  cases region s.params b with
  | ram i => simp only [Memory.read_write, Region.ram.injEq]; split_ifs <;> rfl
  | registers => simp
  | rom off => simp
  | sram => simp
  | unmapped => simp

/-- The bytes of memory after a return address and an image of P are pushed. -/
theorem pushesEntry_of {s t : State} {ret : Addr} {image : Byte} (hp : t.params = s.params)
    (hr : t.ram = Memory.write (Memory.write (Memory.write s.ram (256 + s.sp.toNat) (hi ret)) (256 + (s.sp - 1).toNat) (lo ret))
      (256 + (s.sp - 2).toNat) image) :
    PushesEntry ret image s t := by
  intro b
  simp only [sameByte, region_stack]
  unfold peek
  rw [hr, hp]
  cases region s.params b with
  | ram i => simp only [Memory.read_write, Region.ram.injEq]; split_ifs <;> rfl
  | registers => simp
  | rom off => simp
  | sram => simp
  | unmapped => simp

/-- What the byte `k` places above SP is, as an index of RAM. -/
theorem stackByte_eq (s : State) (k : Nat) : stackByte s k = Memory.read s.ram (256 + (s.sp + BitVec.ofNat 8 k).toNat) := by
  unfold stackByte
  rw [BitVec.toNat_add]
  simp

/-- R520, R85: the reset value of PC is the word at the reset vector, read through the bus of a machine with no image. -/
theorem reset_pc_is_vector : State.reset.pc = (read16 resetVector State.reset).1 := by
  decide

end Sys2Proof.Machine
end

