-- ==== Sys2Proof/Laws/Decode.lean ====
section
/-!
SUPPORT. The opcode table as a whole: every opcode has its own row, which obeys the rules of the table.
-/

namespace Sys2Proof

/-- R124, R125: the rows, in the order of their opcodes, are 256 and carry the opcodes 0 to 255. -/
theorem opcodePages_opcodes : opcodePages.flatten.map (fun r => r.opcode.toNat) = List.range 256 := by decide +kernel

/-- R124, R125: the row of an opcode carries it. -/
theorem rowOf_opcode (op : Byte) : (rowOf op).opcode = op := by revert op; decide +kernel

/-- R152 to R154, R165, R169, R173: every row of the table obeys the rules. -/
theorem rowOf_wellFormed (op : Byte) : (rowOf op).wellFormed = true := by revert op; decide +kernel

/-- R121: the length of a row is 1, 2 or 3. -/
theorem rowOf_length (op : Byte) : (rowOf op).length = 1 ∨ (rowOf op).length = 2 ∨ (rowOf op).length = 3 := by
  unfold Row.length
  cases (rowOf op).mode <;> decide

end Sys2Proof
end

