-- ==== Sys2Proof/Laws/Operands.lean ====
section
/-!
SUPPORT. The operand forms and the shapes of instructions: each shape as one equation that says everything it does, and the frame that
follows when the rest of the instruction writes registers and flags only.
-/

namespace Sys2Proof.Machine

/-- Only A, X, Y, SP and P of `u` may differ from `t`. -/
def RegistersOnly (t u : State) : Prop := u = { t with a := u.a, x := u.x, y := u.y, sp := u.sp, p := u.p }

theorem RegistersOnly.rfl' (t : State) : RegistersOnly t t := rfl

/-- R170, R171: a pointer is read from RAM, with no event. -/
theorem pointerAt_eq (z : Byte) (s : State) :
    pointerAt z s = (wordOf (Memory.read s.ram z.toNat) (Memory.read s.ram (z + 1).toNat), s) := by
  simp [pointerAt, zeroPage, read8_zeroPage]

/-- Resolving an operand changes nothing. -/
@[simp] theorem resolve_state (m : MemOperand) (s : State) : (resolve m s).2 = s := by
  cases m <;> simp [resolve, pointerAt_eq]

/-- Resolving looks at X, Y and RAM alone. -/
theorem resolve_congr (m : MemOperand) {s t : State} (hx : t.x = s.x) (hy : t.y = s.y) (hr : t.ram = s.ram) :
    (resolve m t).1 = (resolve m s).1 := by
  cases m <;> simp [resolve, pointerAt_eq, hx, hy, hr]

theorem resolve_eq (m : MemOperand) (s : State) : resolve m s = ((resolve m s).1, s) :=
  Prod.ext rfl (resolve_state m s)

theorem resolve_advance (m : MemOperand) (s : State) (n : Nat) :
    resolve m (s.advance n) = ((resolve m s).1, s.advance n) := by
  rw [resolve_eq m (s.advance n), resolve_congr m (s := s) (t := s.advance n) rfl rfl rfl]

theorem busByte_advance (a : Addr) (s : State) (n : Nat) : busByte a (s.advance n) = busByte a s :=
  busByte_congr (State.advance_ram s n) (State.advance_params s n) (State.advance_draws s n) a

theorem eaOf_eq (m : MemOperand) (s : State) : (resolve m s).1.ea = eaOf m s := rfl

/-- R167, R168, R171: a page cross is a change of the high byte, and costs one. -/
theorem crossed_toNat (b e : Addr) : (hi b != hi e).toNat = if b.toNat / 256 = e.toNat / 256 then 0 else 1 := by
  have h : (hi b = hi e) ↔ b.toNat / 256 = e.toNat / 256 := by
    rw [BitVec.toNat_eq, hi_toNat, hi_toNat]
  by_cases hc : hi b = hi e
  · rw [if_pos (h.1 hc), hc]; simp
  · rw [if_neg (fun hh => hc (h.2 hh))]
    have : (hi b != hi e) = true := by simpa using hc
    rw [this]; rfl

theorem crossPenalty_eq (m : MemOperand) (s : State) : crossPenalty (.mem m) s = (resolve m s).1.crossed.toNat := by
  cases m with
  | absx w => exact (crossed_toNat _ _).symm
  | absy w => exact (crossed_toNat _ _).symm
  | izy z =>
    have := (crossed_toNat (pointerAt z s).1 (eaOf (.izy z) s)).symm
    simp only [eaOf, resolve, pointerAt_eq, Resolved.indexed] at this
    simpa only [crossPenalty, eaOf, resolve, pointerAt_eq, Resolved.indexed] using this
  | zp z => rfl
  | zpx z => rfl
  | zpy z => rfl
  | abs w => rfl
  | izx z => rfl

theorem crossPenalty_le (o : ReadOperand) (s : State) : crossPenalty o s ≤ 1 := by
  cases o with
  | imm v => exact Nat.zero_le 1
  | mem m => rw [crossPenalty_eq]; cases (resolve m s).1.crossed <;> decide

theorem byteOf_mem (m : MemOperand) (s : State) : byteOf (.mem m) s = busByte (eaOf m s) s := by
  have h := resolve_eq m s
  simp only [byteOf, readOperand]
  rw [h]
  rfl

/-- The state after the operand bytes of a read-kind instruction are passed and its operand is read. -/
def afterRead (o : ReadOperand) (s : State) : State :=
  { s with
    pc := s.pc + BitVec.ofNat 16 (readLength o)
    trace := s.trace ++ operandEvents o s
    draws := s.draws + (operandEvents o s).length }

/-- Everything reading an operand does, from a state in which PC is past the instruction. -/
theorem readOperand_advance (o : ReadOperand) (s : State) :
    readOperand o (s.advance (readLength o)) =
      { byte := byteOf o s, penalty := crossPenalty o s, after := afterRead o s } := by
  cases o with
  | imm v => simp [readOperand, byteOf, crossPenalty, afterRead, operandEvents, State.advance]
  | mem m =>
    unfold readOperand
    simp only [resolve_advance]
    rw [read8_eq, crossPenalty_eq]
    simp only [busByte_advance, eaOf_eq, afterRead, operandEvents, byteOf_mem]
    rfl

/-- Everything a read-kind instruction does. -/
theorem readInstr_eq (c : Nat) (o : ReadOperand) (effect : Byte → State → State) (s : State) :
    readInstr c o effect s = .next ((effect (byteOf o s) (afterRead o s)).tick (c + crossPenalty o s)) := by
  unfold readInstr
  rw [readOperand_advance]

/-- The frame of a read-kind instruction whose effect writes registers and flags only. -/
theorem readFrame_of {c : Nat} {o : ReadOperand} {s u : State} (h : RegistersOnly (afterRead o s) u) :
    ReadFrame c o s (u.tick (c + crossPenalty o s)) := by
  rw [h]
  refine ⟨rfl, ?_, rfl, rfl, fun b => rfl, rfl, rfl, rfl, rfl, rfl, rfl, rfl⟩
  simp [afterRead, Nat.add_assoc]

/-- Everything a store does. -/
theorem storeInstr_eq (c : Nat) (m : MemOperand) (value : State → Byte) (s : State) :
    storeInstr c m value s =
      .next ((write8 (eaOf m s) (value (s.advance (memLength m))) (s.advance (memLength m))).tick c) := by
  unfold storeInstr
  rw [resolve_advance]
  rfl

/-- The frame of a store. -/
theorem storeFrame_of (c : Nat) (m : MemOperand) (v : Byte) (s : State) :
    StoreFrame c m v s ((write8 (eaOf m s) v (s.advance (memLength m))).tick c) := by
  refine ⟨?_, ?_, ?_, ?_, peek_write8 (eaOf m s) v (s.advance (memLength m)), ?_⟩
  all_goals rw [write8_eq]
  · rfl
  · rfl
  · rfl
  · rfl
  · exact ⟨rfl, rfl, rfl, rfl, rfl, rfl, rfl⟩

/-- Everything a read-modify-write instruction does. -/
theorem rmwInstr_eq (c : Nat) (m : MemOperand) (f : Byte → State → Byte × Bool) (after : Byte → Bool → State → State)
    (s : State) :
    rmwInstr c m f after s =
      .next ((after (f (byteOf (.mem m) s) (afterRead (.mem m) s)).1 (f (byteOf (.mem m) s) (afterRead (.mem m) s)).2
        (write8 (eaOf m s) (f (byteOf (.mem m) s) (afterRead (.mem m) s)).1 (afterRead (.mem m) s))).tick c) := by
  have h := readOperand_advance (.mem m) s
  unfold readOperand at h
  simp only [readLength, resolve_advance] at h
  injection h with h1 _ h3
  unfold rmwInstr
  simp only [resolve_advance]
  rw [h1, h3]
  rfl

/-- The frame of a read-modify-write instruction that writes `v` and then registers and flags only. -/
theorem rmwFrame_of {c : Nat} {m : MemOperand} {v : Byte} {s u : State}
    (h : RegistersOnly (write8 (eaOf m s) v (afterRead (.mem m) s)) u) : RmwFrame c m v s (u.tick c) := by
  have hs := peek_write8 (eaOf m s) v (afterRead (.mem m) s)
  rw [h]
  refine ⟨?_, ?_, ?_, ?_, hs, ?_⟩
  all_goals rw [write8_eq]
  · rfl
  · rfl
  · rfl
  · rfl
  · exact ⟨rfl, rfl, rfl, rfl, rfl, rfl, rfl⟩

/-- The frame of an instruction of one byte whose effect writes registers and flags only. -/
theorem quietFrame_of {c : Nat} {s u : State} (h : RegistersOnly (s.advance 1) u) : QuietFrame 1 c s (u.tick c) := by
  rw [h]
  exact ⟨rfl, rfl, rfl, rfl, fun b => rfl, rfl, rfl, rfl, rfl, rfl, rfl, rfl⟩

/-- An immediate operand makes no access. -/
theorem quietFrame_of_imm {c : Nat} {v : Byte} {s t : State} (h : ReadFrame c (.imm v) s t) : QuietFrame 2 c s t := by
  obtain ⟨h1, h2, h3, h4, h5, h6⟩ := h
  exact ⟨h1, by simpa [crossPenalty] using h2, by simpa [operandEvents] using h3, by simpa [operandEvents] using h4, h5, h6⟩

/-- Everything a high-byte store does. -/
theorem shInstr_eq (c : Nat) (m : MemOperand) (value : State → Byte) (effect : State → State) (s : State) :
    shInstr c m value effect s =
      .next ((shStore (value (s.advance (memLength m))) (resolve m s).1 (effect (s.advance (memLength m)))).tick c) := by
  unfold shInstr
  rw [resolve_advance]

end Sys2Proof.Machine
end

