-- ==== Sys2Proof/Laws/Exec.lean ====
section
/-!
SUPPORT. What an instruction can do to the block, said once for all 256: it answers a next state, in which only the CPU's registers, RAM, the
bus trace and the draw counter may differ, P keeps its fixed bits and RAM its form.
-/

namespace Sys2Proof.Machine

/-- Only what the CPU owns differs between `s` and `t`, and what is fixed in P and RAM stays. -/
def CpuEffect (s t : State) : Prop :=
  t = { s with
    a := t.a, x := t.x, y := t.y, sp := t.sp, pc := t.pc, p := t.p, cycles := t.cycles, jammed := t.jammed
    ram := t.ram, trace := t.trace, draws := t.draws } ∧
  (StatusOk s.p → StatusOk t.p) ∧ (RamOk s.ram → RamOk t.ram)

theorem CpuEffect.refl (s : State) : CpuEffect s s := ⟨rfl, id, id⟩

theorem CpuEffect.trans {s t u : State} (h : CpuEffect s t) (k : CpuEffect t u) : CpuEffect s u := by
  obtain ⟨h1, h2, h3⟩ := h
  obtain ⟨k1, k2, k3⟩ := k
  refine ⟨?_, k2 ∘ h2, k3 ∘ h3⟩
  rw [k1, h1]

/-- An update of the registers, the counters and the trace, with P as it was or packed anew. -/
theorem CpuEffect.ofPacked {s t : State}
    (h : t = { s with
      a := t.a, x := t.x, y := t.y, sp := t.sp, pc := t.pc, p := t.p, cycles := t.cycles, jammed := t.jammed
      trace := t.trace, draws := t.draws })
    (hp : t.p = s.p ∨ ∃ f, t.p = packFlags f) : CpuEffect s t := by
  refine ⟨?_, ?_, ?_⟩
  · rw [h]
  · rcases hp with hp | ⟨f, hp⟩
    · rw [hp]; exact id
    · rw [hp]; exact fun _ => packFlags_ok f
  · rw [h]; exact id

theorem CpuEffect.keep {s t : State}
    (h : t = { s with
      a := t.a, x := t.x, y := t.y, sp := t.sp, pc := t.pc, cycles := t.cycles, jammed := t.jammed
      trace := t.trace, draws := t.draws }) : CpuEffect s t :=
  CpuEffect.ofPacked (by rw [h]) (Or.inl (by rw [h]))

theorem effect_setFlags (s : State) (f : Flags) : CpuEffect s (s.setFlags f) := CpuEffect.ofPacked rfl (Or.inr ⟨f, rfl⟩)
theorem effect_setNZ (v : Byte) (s : State) : CpuEffect s (setNZ v s) := effect_setFlags _ _
theorem effect_setC (b : Bool) (s : State) : CpuEffect s (setC b s) := effect_setFlags _ _
theorem effect_setV (b : Bool) (s : State) : CpuEffect s (setV b s) := effect_setFlags _ _
theorem effect_setD (b : Bool) (s : State) : CpuEffect s (setD b s) := effect_setFlags _ _
theorem effect_setI (b : Bool) (s : State) : CpuEffect s (setI b s) := effect_setFlags _ _
theorem effect_pullFlags (s : State) (v : Byte) : CpuEffect s (s.pullFlags v) :=
  ⟨rfl, fun _ => pulled_ok v, id⟩

theorem effect_read8 (a : Addr) (s : State) : CpuEffect s (read8 a s).2 := by
  rw [read8_eq]
  exact CpuEffect.keep rfl

theorem effect_write8 (a : Addr) (v : Byte) (s : State) : CpuEffect s (write8 a v s) := by
  rw [write8_eq]
  refine ⟨rfl, id, fun h => ?_⟩
  by_cases ha : a < 0x2000
  · simp only [ha, if_true]
    exact ⟨Memory.write_wf h.1 _ _, Memory.write_below h.2 (by rw [ramIndex_eq]; omega) _⟩
  · simp only [ha, if_false]
    exact h

theorem effect_push8 (v : Byte) (s : State) : CpuEffect s (push8 v s) :=
  (effect_write8 _ v s).trans (CpuEffect.keep rfl)

theorem effect_pull8 (s : State) : CpuEffect s (pull8 s).2 := by
  rw [pull8_eq]
  exact CpuEffect.keep rfl

theorem effect_push16 (w : Addr) (s : State) : CpuEffect s (push16 w s) :=
  (effect_push8 _ s).trans (effect_push8 _ _)

theorem effect_pull16 (s : State) : CpuEffect s (pull16 s).2 := by
  rw [pull16_eq]
  exact CpuEffect.keep rfl

theorem effect_read16 (a : Addr) (s : State) : CpuEffect s (read16 a s).2 :=
  (effect_read8 a s).trans (effect_read8 (a + 1) _)

theorem effect_enter (ret : Addr) (image : Byte) (v : Addr) (s : State) : CpuEffect s (enter ret image v s) :=
  ((effect_push16 ret s).trans ((effect_push8 image _).trans (effect_setI true _))).trans
    ((effect_read16 v _).trans (CpuEffect.keep rfl))

theorem effect_leave (s : State) : CpuEffect s (leave s) := by
  rw [leave_eq]
  exact ⟨rfl, fun _ => pulled_ok _, id⟩

theorem effect_advance (s : State) (n : Nat) : CpuEffect s (s.advance n) := CpuEffect.keep rfl
theorem effect_tick (s : State) (n : Nat) : CpuEffect s (s.tick n) := CpuEffect.keep rfl

/-- What is said of a meaning: it answers a next state that the CPU may reach. -/
def Completes (r : Result) (s : State) : Prop := ∃ t, r = .next t ∧ CpuEffect s t

theorem completes_read (c : Nat) (o : ReadOperand) {f : Byte → State → State} (s : State) (h : ∀ b t, CpuEffect t (f b t)) :
    Completes (readInstr c o f s) s := by
  refine ⟨_, readInstr_eq c o f s, ?_⟩
  have h1 : CpuEffect s (afterRead o s) := CpuEffect.keep rfl
  exact h1.trans ((h _ _).trans (effect_tick _ _))

theorem completes_store (c : Nat) (m : MemOperand) (value : State → Byte) (s : State) :
    Completes (storeInstr c m value s) s :=
  ⟨_, storeInstr_eq c m value s, (effect_advance s _).trans ((effect_write8 _ _ _).trans (effect_tick _ _))⟩

theorem completes_rmw (c : Nat) (m : MemOperand) (f : Byte → State → Byte × Bool) {after : Byte → Bool → State → State}
    (s : State) (h : ∀ v b t, CpuEffect t (after v b t)) : Completes (rmwInstr c m f after s) s := by
  refine ⟨_, rmwInstr_eq c m f after s, ?_⟩
  have h1 : CpuEffect s (afterRead (.mem m) s) := CpuEffect.keep rfl
  exact h1.trans ((effect_write8 _ _ _).trans ((h _ _ _).trans (effect_tick _ _)))

theorem completes_implied (c : Nat) {f : State → State} (s : State) (h : ∀ t, CpuEffect t (f t)) :
    Completes (impliedInstr c f s) s :=
  ⟨_, rfl, (effect_advance s 1).trans ((h _).trans (effect_tick _ _))⟩

theorem completes_sh (c : Nat) (m : MemOperand) (value : State → Byte) {f : State → State} (s : State)
    (h : ∀ t, CpuEffect t (f t)) : Completes (shInstr c m value f s) s :=
  ⟨_, shInstr_eq c m value f s,
    (effect_advance s _).trans ((h _).trans ((effect_write8 _ _ _).trans (effect_tick _ _)))⟩

theorem completes_branch (b : Bool) (o : Byte) (s : State) : Completes (branchInstr b o s) s := by
  cases b
  · exact ⟨_, rfl, CpuEffect.keep rfl⟩
  · exact ⟨_, rfl, CpuEffect.keep rfl⟩

theorem effect_setShift (v : Byte) (c : Bool) (s : State) : CpuEffect s (setShift v c s) :=
  (effect_setC c s).trans (effect_setNZ v _)
theorem effect_addToA (b : Byte) (c : Bool) (s : State) : CpuEffect s (addToA b c s) :=
  CpuEffect.ofPacked rfl (Or.inr ⟨_, rfl⟩)
theorem effect_compare (r m : Byte) (s : State) : CpuEffect s (compare r m s) := effect_setFlags _ _
theorem effect_loadA (m : Byte) (s : State) : CpuEffect s (loadA m s) := CpuEffect.ofPacked rfl (Or.inr ⟨_, rfl⟩)
theorem effect_loadX (m : Byte) (s : State) : CpuEffect s (loadX m s) := CpuEffect.ofPacked rfl (Or.inr ⟨_, rfl⟩)
theorem effect_loadY (m : Byte) (s : State) : CpuEffect s (loadY m s) := CpuEffect.ofPacked rfl (Or.inr ⟨_, rfl⟩)

theorem effect_adc (m : Byte) (s : State) : CpuEffect s (adc m s) := CpuEffect.ofPacked rfl (Or.inr ⟨_, rfl⟩)
theorem effect_sbc (m : Byte) (s : State) : CpuEffect s (sbc m s) := CpuEffect.ofPacked rfl (Or.inr ⟨_, rfl⟩)
theorem effect_andA (m : Byte) (s : State) : CpuEffect s (andA m s) := CpuEffect.ofPacked rfl (Or.inr ⟨_, rfl⟩)
theorem effect_oraA (m : Byte) (s : State) : CpuEffect s (oraA m s) := CpuEffect.ofPacked rfl (Or.inr ⟨_, rfl⟩)
theorem effect_eorA (m : Byte) (s : State) : CpuEffect s (eorA m s) := CpuEffect.ofPacked rfl (Or.inr ⟨_, rfl⟩)
theorem effect_cmpA (m : Byte) (s : State) : CpuEffect s (cmpA m s) := CpuEffect.ofPacked rfl (Or.inr ⟨_, rfl⟩)
theorem effect_cmpX (m : Byte) (s : State) : CpuEffect s (cmpX m s) := CpuEffect.ofPacked rfl (Or.inr ⟨_, rfl⟩)
theorem effect_cmpY (m : Byte) (s : State) : CpuEffect s (cmpY m s) := CpuEffect.ofPacked rfl (Or.inr ⟨_, rfl⟩)
theorem effect_bitTest (m : Byte) (s : State) : CpuEffect s (bitTest m s) := CpuEffect.ofPacked rfl (Or.inr ⟨_, rfl⟩)
theorem effect_discard (m : Byte) (s : State) : CpuEffect s (discard m s) := CpuEffect.refl s
theorem effect_loadAX (m : Byte) (s : State) : CpuEffect s (loadAX m s) := CpuEffect.ofPacked rfl (Or.inr ⟨_, rfl⟩)
theorem effect_loadAXMagic (m : Byte) (s : State) : CpuEffect s (loadAXMagic m s) := CpuEffect.ofPacked rfl (Or.inr ⟨_, rfl⟩)
theorem effect_anc (m : Byte) (s : State) : CpuEffect s (anc m s) := CpuEffect.ofPacked rfl (Or.inr ⟨_, rfl⟩)
theorem effect_alr (m : Byte) (s : State) : CpuEffect s (alr m s) := CpuEffect.ofPacked rfl (Or.inr ⟨_, rfl⟩)
theorem effect_arr (m : Byte) (s : State) : CpuEffect s (arr m s) := CpuEffect.ofPacked rfl (Or.inr ⟨_, rfl⟩)
theorem effect_xaa (m : Byte) (s : State) : CpuEffect s (xaa m s) := CpuEffect.ofPacked rfl (Or.inr ⟨_, rfl⟩)
theorem effect_axs (m : Byte) (s : State) : CpuEffect s (axs m s) := CpuEffect.ofPacked rfl (Or.inr ⟨_, rfl⟩)
theorem effect_las (m : Byte) (s : State) : CpuEffect s (las m s) := CpuEffect.ofPacked rfl (Or.inr ⟨_, rfl⟩)
theorem effect_afterStep (v : Byte) (b : Bool) (s : State) : CpuEffect s (afterStep v b s) := CpuEffect.ofPacked rfl (Or.inr ⟨_, rfl⟩)
theorem effect_afterSlo (v : Byte) (b : Bool) (s : State) : CpuEffect s (afterSlo v b s) := CpuEffect.ofPacked rfl (Or.inr ⟨_, rfl⟩)
theorem effect_afterRla (v : Byte) (b : Bool) (s : State) : CpuEffect s (afterRla v b s) := CpuEffect.ofPacked rfl (Or.inr ⟨_, rfl⟩)
theorem effect_afterSre (v : Byte) (b : Bool) (s : State) : CpuEffect s (afterSre v b s) := CpuEffect.ofPacked rfl (Or.inr ⟨_, rfl⟩)
theorem effect_afterRra (v : Byte) (b : Bool) (s : State) : CpuEffect s (afterRra v b s) := CpuEffect.ofPacked rfl (Or.inr ⟨_, rfl⟩)
theorem effect_afterDcp (v : Byte) (b : Bool) (s : State) : CpuEffect s (afterDcp v b s) := CpuEffect.ofPacked rfl (Or.inr ⟨_, rfl⟩)
theorem effect_afterIsb (v : Byte) (b : Bool) (s : State) : CpuEffect s (afterIsb v b s) := CpuEffect.ofPacked rfl (Or.inr ⟨_, rfl⟩)
theorem effect_nothing (s : State) : CpuEffect s (nothing s) := CpuEffect.refl s
theorem effect_setSP (s : State) (v : Byte) : CpuEffect s (s.setSP v) := CpuEffect.keep rfl
theorem effect_pullA (s : State) : CpuEffect s (pullA s) := (effect_pull8 s).trans (effect_loadA _ _)
theorem effect_pullP (s : State) : CpuEffect s (pullP s) := (effect_pull8 s).trans (effect_pullFlags _ _)
theorem effect_returnToCaller (s : State) : CpuEffect s (returnToCaller s) := by
  rw [returnToCaller, pull16_eq]
  exact CpuEffect.keep rfl

theorem completes_acc (f : Byte → State → Byte × Bool) (s : State) : Completes (accInstr f s) s :=
  completes_implied 2 s (fun _ => CpuEffect.ofPacked rfl (Or.inr ⟨_, rfl⟩))

theorem completes_jmpAbs (w : Addr) (s : State) : Completes (execJmpAbs w s) s := ⟨_, rfl, CpuEffect.keep rfl⟩

theorem completes_jmpInd (w : Addr) (s : State) : Completes (execJmpInd w s) s :=
  ⟨_, rfl, (effect_advance s 3).trans ((effect_read8 w _).trans ((effect_read8 _ _).trans (CpuEffect.keep rfl)))⟩

theorem completes_jsr (w : Addr) (s : State) : Completes (execJsrAbs w s) s :=
  ⟨_, rfl, (effect_advance s 3).trans ((effect_push16 _ _).trans (CpuEffect.keep rfl))⟩

theorem completes_jam (s : State) : Completes (.next (jam s)) s := ⟨_, rfl, CpuEffect.keep rfl⟩

/-- Every instruction completes, and does to the block only what the CPU may do. -/
theorem exec_completes (i : Instr) (s : State) : Completes (exec i s) s := by
  cases i <;> simp only [
    exec, execBrk, execOraIzx, execJam02, execSloIzx, execNopZp04, execOraZp, execAslZp, execSloZp, execPhp, execOraImm,
    execAslAcc, execAncImm0B, execNopAbs, execOraAbs, execAslAbs, execSloAbs, execBpl, execOraIzy, execJam12, execSloIzy,
    execNopZpx14, execOraZpx, execAslZpx, execSloZpx, execClc, execOraAbsy, execNopImpl1A, execSloAbsy, execNopAbsx1C,
    execOraAbsx, execAslAbsx, execSloAbsx, execAndIzx, execJam22, execRlaIzx, execBitZp, execAndZp, execRolZp, execRlaZp,
    execPlp, execAndImm, execRolAcc, execAncImm2B, execBitAbs, execAndAbs, execRolAbs, execRlaAbs, execBmi, execAndIzy,
    execJam32, execRlaIzy, execNopZpx34, execAndZpx, execRolZpx, execRlaZpx, execSec, execAndAbsy, execNopImpl3A, execRlaAbsy,
    execNopAbsx3C, execAndAbsx, execRolAbsx, execRlaAbsx, execRti, execEorIzx, execJam42, execSreIzx, execNopZp44, execEorZp,
    execLsrZp, execSreZp, execPha, execEorImm, execLsrAcc, execAlrImm, execEorAbs, execLsrAbs, execSreAbs, execBvc, execEorIzy,
    execJam52, execSreIzy, execNopZpx54, execEorZpx, execLsrZpx, execSreZpx, execCli, execEorAbsy, execNopImpl5A, execSreAbsy,
    execNopAbsx5C, execEorAbsx, execLsrAbsx, execSreAbsx, execRts, execAdcIzx, execJam62, execRraIzx, execNopZp64, execAdcZp,
    execRorZp, execRraZp, execPla, execAdcImm, execRorAcc, execArrImm, execAdcAbs, execRorAbs, execRraAbs, execBvs, execAdcIzy,
    execJam72, execRraIzy, execNopZpx74, execAdcZpx, execRorZpx, execRraZpx, execSei, execAdcAbsy, execNopImpl7A, execRraAbsy,
    execNopAbsx7C, execAdcAbsx, execRorAbsx, execRraAbsx, execNopImm80, execStaIzx, execNopImm82, execSaxIzx, execStyZp,
    execStaZp, execStxZp, execSaxZp, execDey, execNopImm89, execTxa, execXaaImm, execStyAbs, execStaAbs, execStxAbs, execSaxAbs,
    execBcc, execStaIzy, execJam92, execAhxIzy, execStyZpx, execStaZpx, execStxZpy, execSaxZpy, execTya, execStaAbsy, execTxs,
    execTasAbsy, execShyAbsx, execStaAbsx, execShxAbsy, execAhxAbsy, execLdyImm, execLdaIzx, execLdxImm, execLaxIzx, execLdyZp,
    execLdaZp, execLdxZp, execLaxZp, execTay, execLdaImm, execTax, execLaxImm, execLdyAbs, execLdaAbs, execLdxAbs, execLaxAbs,
    execBcs, execLdaIzy, execJamB2, execLaxIzy, execLdyZpx, execLdaZpx, execLdxZpy, execLaxZpy, execClv, execLdaAbsy, execTsx,
    execLasAbsy, execLdyAbsx, execLdaAbsx, execLdxAbsy, execLaxAbsy, execCpyImm, execCmpIzx, execNopImmC2, execDcpIzx, execCpyZp,
    execCmpZp, execDecZp, execDcpZp, execIny, execCmpImm, execDex, execAxsImm, execCpyAbs, execCmpAbs, execDecAbs, execDcpAbs,
    execBne, execCmpIzy, execJamD2, execDcpIzy, execNopZpxD4, execCmpZpx, execDecZpx, execDcpZpx, execCld, execCmpAbsy,
    execNopImplDA, execDcpAbsy, execNopAbsxDC, execCmpAbsx, execDecAbsx, execDcpAbsx, execCpxImm, execSbcIzx, execNopImmE2,
    execIsbIzx, execCpxZp, execSbcZp, execIncZp, execIsbZp, execInx, execSbcImmE9, execNopImplEA, execSbcImmEB, execCpxAbs,
    execSbcAbs, execIncAbs, execIsbAbs, execBeq, execSbcIzy, execJamF2, execIsbIzy, execNopZpxF4, execSbcZpx, execIncZpx,
    execIsbZpx, execSed, execSbcAbsy, execNopImplFA, execIsbAbsy, execNopAbsxFC, execSbcAbsx, execIncAbsx, execIsbAbsx] <;> with_reducible first
    | exact completes_jam s
    | exact completes_store _ _ _ s
    | exact completes_acc _ s
    | exact completes_branch _ _ s
    | exact completes_jmpAbs _ s
    | exact completes_jmpInd _ s
    | exact completes_jsr _ s
    | refine completes_read _ _ s (fun m t => ?_)
    | refine completes_rmw _ _ _ s (fun v b t => ?_)
    | refine completes_sh _ _ _ s (fun t => ?_)
    | refine completes_implied _ s (fun t => ?_)
  all_goals with_reducible first
    | exact effect_adc _ _
    | exact effect_sbc _ _
    | exact effect_andA _ _
    | exact effect_oraA _ _
    | exact effect_eorA _ _
    | exact effect_cmpA _ _
    | exact effect_cmpX _ _
    | exact effect_cmpY _ _
    | exact effect_bitTest _ _
    | exact effect_discard _ _
    | exact effect_loadAX _ _
    | exact effect_loadAXMagic _ _
    | exact effect_anc _ _
    | exact effect_alr _ _
    | exact effect_arr _ _
    | exact effect_xaa _ _
    | exact effect_axs _ _
    | exact effect_las _ _
    | exact effect_loadA _ _
    | exact effect_loadX _ _
    | exact effect_loadY _ _
    | exact effect_setSP _ _
    | exact effect_push8 _ _
    | exact effect_setC _ _
    | exact effect_setI _ _
    | exact effect_setD _ _
    | exact effect_setV _ _
    | exact effect_afterStep _ _ _
    | exact effect_afterSlo _ _ _
    | exact effect_afterRla _ _ _
    | exact effect_afterSre _ _ _
    | exact effect_afterRra _ _ _
    | exact effect_afterDcp _ _ _
    | exact effect_afterIsb _ _ _
    | exact effect_setShift _ _ _
    | exact effect_nothing t
    | exact effect_pullA t
    | exact effect_pullP t
    | exact effect_returnToCaller t
    | exact effect_leave t
    | exact effect_enter _ _ _ t

/-- Fetching an instruction does only what the CPU may do. -/
theorem effect_fetch (s : State) : CpuEffect s (fetch s).2 := by
  unfold fetch
  simp only
  split
  · exact effect_read8 _ _
  · exact (effect_read8 _ _).trans (effect_read8 _ _)
  · exact (effect_read8 _ _).trans ((effect_read8 _ _).trans (effect_read8 _ _))

/-- A step always answers a next state, and does to the block only what the CPU may do. -/
theorem step_completes (s : State) : Completes (step s) s := by
  unfold step
  split
  · exact ⟨s, rfl, CpuEffect.refl s⟩
  · obtain ⟨t, h, ht⟩ := exec_completes (fetch s).1 (fetch s).2
    exact ⟨t, h, (effect_fetch s).trans ht⟩

/-- The state after a step is the one the step answers. -/
theorem step_eq_stepState (s : State) : step s = .next (stepState s) := by
  obtain ⟨t, h, -⟩ := step_completes s
  rw [stepState, h]

end Sys2Proof.Machine
end

