-- ==== Sys2Proof/Laws/Launch.lean ====
section
/-!
SUPPORT. The launch protocol and the host's calls on the CPU: each does to the block only what the CPU may do, and what each writes.
-/

namespace Sys2Proof.Machine

theorem effect_stepState (s : State) : CpuEffect s (stepState s) := by
  obtain ⟨t, h, he⟩ := step_completes s
  unfold stepState
  rw [h]
  exact he

theorem effect_runLoop (fuel target start : Nat) (s : State) : CpuEffect s (runLoop fuel target start s) := by
  induction fuel generalizing s with
  | zero => exact CpuEffect.refl s
  | succ n ih =>
    unfold runLoop
    split
    · exact (effect_stepState s).trans (ih _)
    · exact CpuEffect.refl s

/-- R532: the RAM after the trap is written at index `t`. -/
def trapRam (t : Byte) (m : List Host.Cell) : List Host.Cell :=
  Memory.write (Memory.write (Memory.write (Memory.write m t.toNat 0xEA) (t.toNat + 1) 0x4C) (t.toNat + 2) t) (t.toNat + 3) 0x00

/-- R532: writing the trap is four writes of RAM, no event. -/
theorem writeTrap_eq (s : State) : writeTrap s = { s with ram := trapRam s.params.trapAddr s.ram } := by
  have hk : ∀ t : Byte, zeroPage t < (0x2000 : Addr) ∧ zeroPage t + 1 < (0x2000 : Addr) ∧ zeroPage t + 2 < (0x2000 : Addr) ∧
      zeroPage t + 3 < (0x2000 : Addr) ∧ (zeroPage t &&& 0x07FF).toNat = t.toNat ∧
      ((zeroPage t + 1) &&& 0x07FF).toNat = t.toNat + 1 ∧ ((zeroPage t + 2) &&& 0x07FF).toNat = t.toNat + 2 ∧
      ((zeroPage t + 3) &&& 0x07FF).toNat = t.toNat + 3 := by decide
  obtain ⟨a0, a1, a2, a3, i0, i1, i2, i3⟩ := hk s.params.trapAddr
  have hw : ∀ (a : Addr) (v : Byte) (t : State), a < 0x2000 →
      write8 a v t = t.setRam (Memory.write t.ram (a &&& 0x07FF).toNat v) := by
    intro a v t h
    simp only [write8, region_ram h]
  unfold writeTrap
  simp only [hw _ _ _ a0, hw _ _ _ a1, hw _ _ _ a2, hw _ _ _ a3, i0, i1, i2, i3]
  rfl

theorem effect_writeTrap (s : State) : CpuEffect s (writeTrap s) := by
  unfold writeTrap
  exact (effect_write8 _ _ _).trans ((effect_write8 _ _ _).trans ((effect_write8 _ _ _).trans (effect_write8 _ _ _)))

/-- Everything the set-up of an entry point does: the two bytes of the trap's address stand at $01FD and $01FC. -/
theorem setup_eq (entry : Addr) (s : State) :
    setup entry s = { s with
      a := BitVec.ofNat 8 (s.session.song - 1)
      x := regionCode s.params.region
      y := 0x00
      p := 0x26
      sp := 0xFB
      pc := entry
      ram := Memory.write (Memory.write s.ram 0x1FD 0x00) 0x1FC s.params.trapAddr } := by
  have hk : ∀ t : Byte, hi (zeroPage t) = 0x00 ∧ lo (zeroPage t) = t := by decide
  unfold setup
  simp only [push16_eq, hk]
  rfl

theorem effect_setup (entry : Addr) (s : State) : CpuEffect s (setup entry s) := by
  rw [setup_eq]
  refine ⟨rfl, fun _ => (by decide : StatusOk 0x26), fun h => ?_⟩
  exact ⟨Memory.write_wf (Memory.write_wf h.1 _ _) _ _,
    Memory.write_below (Memory.write_below h.2 (by decide) _) (by decide) _⟩

theorem effect_interrupt (v : Addr) (s : State) : CpuEffect s (interrupt v s) :=
  (effect_enter _ _ _ _).trans (effect_tick _ _)

theorem effect_resetCpu (s : State) : CpuEffect s (resetCpu s) := by
  have h1 : CpuEffect s (((resetDraws s).setSP 0xFD).setJammed false) := CpuEffect.ofPacked rfl (Or.inr ⟨_, rfl⟩)
  exact h1.trans ((effect_read16 _ _).trans (CpuEffect.keep rfl))

/-- Everything the host's `init_song` does: with a song of the file, it maps the file and loads the song; else nothing. -/
theorem initSongOf_eq (f : SongFile) (n : Nat) (s : State) :
    initSongOf f n s =
      if 1 ≤ n ∧ n ≤ f.totalSongs then (.ok (), loadSong n (s.mapFile f)) else (.error .invalidSongNumber, s) := by
  have hs : songOk (s.mapFile f).params n = true ↔ 1 ≤ n ∧ n ≤ f.totalSongs := by
    rw [songOk, Bool.and_eq_true, decide_eq_true_iff, decide_eq_true_iff, State.mapFile_params]
  unfold initSongOf initSong
  by_cases h : 1 ≤ n ∧ n ≤ f.totalSongs
  · rw [if_pos (hs.2 h), if_pos h]
  · rw [if_neg (fun k => h (hs.1 k)), if_neg h]

/-- Loading a song is what the CPU may do to a state with RAM cleared, the jam cleared and the song in the session. -/
theorem effect_loadSong (n : Nat) (s : State) :
    CpuEffect { s with ram := [], jammed := false, session := { loaded := true, song := n, status := .idle } } (loadSong n s) :=
  (effect_writeTrap _).trans (effect_setup _ _)

/-- What the CPU does leaves the invariant of the block. -/
theorem CpuEffect.inv {s t : State} (h : CpuEffect s t) (hi : s.Inv) : t.Inv := by
  obtain ⟨h1, h2, h3⟩ := h
  obtain ⟨i1, i2, i3, i4, i5, i6, i7⟩ := hi
  rw [h1]
  exact ⟨h2 i1, h3 i2, i3, i4, i5, i6, i7⟩

/-- A change of the session's status keeps the invariant once a song is loaded. -/
theorem setStatus_inv {s : State} (hi : s.Inv) (st : Status) (hl : s.session.loaded = true) : (s.setStatus st).Inv := by
  obtain ⟨i1, i2, i3, i4, i5, i6, i7⟩ := hi
  refine ⟨i1, i2, i3, ⟨fun h => i4.1 h, fun h => ?_⟩, i5, i6, i7⟩
  rw [show (s.setStatus st).session.loaded = s.session.loaded from rfl, hl] at h
  cases h

/-- Loading a song of the mapped file keeps the invariant. -/
theorem loadSong_inv {n : Nat} {s : State} (hi : s.Inv) (h : 1 ≤ n ∧ n ≤ s.params.file.totalSongs) : (loadSong n s).Inv := by
  obtain ⟨i1, _, i3, _, i5, i6, i7⟩ := hi
  refine (effect_loadSong n s).inv ⟨i1, ⟨⟨List.Pairwise.nil, ?_⟩, ?_⟩, i3, ⟨fun _ => h, ?_⟩, i5, i6, i7⟩
  · exact fun c hc => absurd hc List.not_mem_nil
  · exact fun c hc => absurd hc List.not_mem_nil
  · intro h; cases h

/-- The host's `init_song`, given a song file in the ranges of R8, keeps the invariant. -/
theorem initSongOf_inv {f : SongFile} {s : State} (hi : s.Inv) (hf : f.wellFormed) (n : Nat) : (initSongOf f n s).2.Inv := by
  rw [initSongOf_eq]
  by_cases h : 1 ≤ n ∧ n ≤ f.totalSongs
  · rw [if_pos h]
    obtain ⟨i1, i2, _, _, i5, i6, i7⟩ := hi
    have hc : (loadSong n (s.mapFile f)) = loadSong n { s.mapFile f with session := Session.initial } := rfl
    rw [hc]
    exact loadSong_inv ⟨i1, i2, hf, ⟨(by intro h; cases h), fun _ => rfl⟩, i5, i6, i7⟩ h
  · rw [if_neg h]
    exact hi

end Sys2Proof.Machine
end

