-- ==== Sys2Proof/Laws/PerInstr.lean ====
section
/-!
SUPPORT. The per-instruction family EncodeShape: the first byte of an instruction's encoding is the opcode of its row, and the encoding
is as long as the row says (30_encoding.md R120, R121, R123).
-/

namespace Sys2Proof.Laws.EncodeShape

/-- R120, R121, R123: the encoding starts with the row's opcode and has the row's length. -/
def Statement (i : Instr) : Prop := i.row.opcode = i.opcode ∧ (encode i).length = i.row.length

/-- The statement, from the opcode and the operand bytes of the encoding. -/
theorem ofBytes {i : Instr} {op : Byte} {rest : List Byte} (h : encode i = op :: rest) (ho : (rowOf op).opcode = op)
    (hl : rest.length + 1 = (rowOf op).length) : Statement i := by
  have hop : i.opcode = op := by simp [Instr.opcode, h]
  refine ⟨?_, ?_⟩
  · rw [Instr.row, hop]; exact ho
  · rw [Instr.row, hop, h]; exact hl

theorem brk : Statement .brk := ofBytes (op := 0x00) (rest := []) rfl rfl rfl
theorem oraIzx (z : Byte) : Statement (.oraIzx z) := ofBytes (op := 0x01) (rest := [z]) rfl rfl rfl
theorem jam02 : Statement .jam02 := ofBytes (op := 0x02) (rest := []) rfl rfl rfl
theorem sloIzx (z : Byte) : Statement (.sloIzx z) := ofBytes (op := 0x03) (rest := [z]) rfl rfl rfl
theorem nopZp04 (z : Byte) : Statement (.nopZp04 z) := ofBytes (op := 0x04) (rest := [z]) rfl rfl rfl
theorem oraZp (z : Byte) : Statement (.oraZp z) := ofBytes (op := 0x05) (rest := [z]) rfl rfl rfl
theorem aslZp (z : Byte) : Statement (.aslZp z) := ofBytes (op := 0x06) (rest := [z]) rfl rfl rfl
theorem sloZp (z : Byte) : Statement (.sloZp z) := ofBytes (op := 0x07) (rest := [z]) rfl rfl rfl
theorem php : Statement .php := ofBytes (op := 0x08) (rest := []) rfl rfl rfl
theorem oraImm (v : Byte) : Statement (.oraImm v) := ofBytes (op := 0x09) (rest := [v]) rfl rfl rfl
theorem aslAcc : Statement .aslAcc := ofBytes (op := 0x0A) (rest := []) rfl rfl rfl
theorem ancImm0B (v : Byte) : Statement (.ancImm0B v) := ofBytes (op := 0x0B) (rest := [v]) rfl rfl rfl
theorem nopAbs (w : Addr) : Statement (.nopAbs w) := ofBytes (op := 0x0C) (rest := [lo w, hi w]) rfl rfl rfl
theorem oraAbs (w : Addr) : Statement (.oraAbs w) := ofBytes (op := 0x0D) (rest := [lo w, hi w]) rfl rfl rfl
theorem aslAbs (w : Addr) : Statement (.aslAbs w) := ofBytes (op := 0x0E) (rest := [lo w, hi w]) rfl rfl rfl
theorem sloAbs (w : Addr) : Statement (.sloAbs w) := ofBytes (op := 0x0F) (rest := [lo w, hi w]) rfl rfl rfl
theorem bpl (o : Byte) : Statement (.bpl o) := ofBytes (op := 0x10) (rest := [o]) rfl rfl rfl
theorem oraIzy (z : Byte) : Statement (.oraIzy z) := ofBytes (op := 0x11) (rest := [z]) rfl rfl rfl
theorem jam12 : Statement .jam12 := ofBytes (op := 0x12) (rest := []) rfl rfl rfl
theorem sloIzy (z : Byte) : Statement (.sloIzy z) := ofBytes (op := 0x13) (rest := [z]) rfl rfl rfl
theorem nopZpx14 (z : Byte) : Statement (.nopZpx14 z) := ofBytes (op := 0x14) (rest := [z]) rfl rfl rfl
theorem oraZpx (z : Byte) : Statement (.oraZpx z) := ofBytes (op := 0x15) (rest := [z]) rfl rfl rfl
theorem aslZpx (z : Byte) : Statement (.aslZpx z) := ofBytes (op := 0x16) (rest := [z]) rfl rfl rfl
theorem sloZpx (z : Byte) : Statement (.sloZpx z) := ofBytes (op := 0x17) (rest := [z]) rfl rfl rfl
theorem clc : Statement .clc := ofBytes (op := 0x18) (rest := []) rfl rfl rfl
theorem oraAbsy (w : Addr) : Statement (.oraAbsy w) := ofBytes (op := 0x19) (rest := [lo w, hi w]) rfl rfl rfl
theorem nopImpl1A : Statement .nopImpl1A := ofBytes (op := 0x1A) (rest := []) rfl rfl rfl
theorem sloAbsy (w : Addr) : Statement (.sloAbsy w) := ofBytes (op := 0x1B) (rest := [lo w, hi w]) rfl rfl rfl
theorem nopAbsx1C (w : Addr) : Statement (.nopAbsx1C w) := ofBytes (op := 0x1C) (rest := [lo w, hi w]) rfl rfl rfl
theorem oraAbsx (w : Addr) : Statement (.oraAbsx w) := ofBytes (op := 0x1D) (rest := [lo w, hi w]) rfl rfl rfl
theorem aslAbsx (w : Addr) : Statement (.aslAbsx w) := ofBytes (op := 0x1E) (rest := [lo w, hi w]) rfl rfl rfl
theorem sloAbsx (w : Addr) : Statement (.sloAbsx w) := ofBytes (op := 0x1F) (rest := [lo w, hi w]) rfl rfl rfl
theorem jsrAbs (w : Addr) : Statement (.jsrAbs w) := ofBytes (op := 0x20) (rest := [lo w, hi w]) rfl rfl rfl
theorem andIzx (z : Byte) : Statement (.andIzx z) := ofBytes (op := 0x21) (rest := [z]) rfl rfl rfl
theorem jam22 : Statement .jam22 := ofBytes (op := 0x22) (rest := []) rfl rfl rfl
theorem rlaIzx (z : Byte) : Statement (.rlaIzx z) := ofBytes (op := 0x23) (rest := [z]) rfl rfl rfl
theorem bitZp (z : Byte) : Statement (.bitZp z) := ofBytes (op := 0x24) (rest := [z]) rfl rfl rfl
theorem andZp (z : Byte) : Statement (.andZp z) := ofBytes (op := 0x25) (rest := [z]) rfl rfl rfl
theorem rolZp (z : Byte) : Statement (.rolZp z) := ofBytes (op := 0x26) (rest := [z]) rfl rfl rfl
theorem rlaZp (z : Byte) : Statement (.rlaZp z) := ofBytes (op := 0x27) (rest := [z]) rfl rfl rfl
theorem plp : Statement .plp := ofBytes (op := 0x28) (rest := []) rfl rfl rfl
theorem andImm (v : Byte) : Statement (.andImm v) := ofBytes (op := 0x29) (rest := [v]) rfl rfl rfl
theorem rolAcc : Statement .rolAcc := ofBytes (op := 0x2A) (rest := []) rfl rfl rfl
theorem ancImm2B (v : Byte) : Statement (.ancImm2B v) := ofBytes (op := 0x2B) (rest := [v]) rfl rfl rfl
theorem bitAbs (w : Addr) : Statement (.bitAbs w) := ofBytes (op := 0x2C) (rest := [lo w, hi w]) rfl rfl rfl
theorem andAbs (w : Addr) : Statement (.andAbs w) := ofBytes (op := 0x2D) (rest := [lo w, hi w]) rfl rfl rfl
theorem rolAbs (w : Addr) : Statement (.rolAbs w) := ofBytes (op := 0x2E) (rest := [lo w, hi w]) rfl rfl rfl
theorem rlaAbs (w : Addr) : Statement (.rlaAbs w) := ofBytes (op := 0x2F) (rest := [lo w, hi w]) rfl rfl rfl
theorem bmi (o : Byte) : Statement (.bmi o) := ofBytes (op := 0x30) (rest := [o]) rfl rfl rfl
theorem andIzy (z : Byte) : Statement (.andIzy z) := ofBytes (op := 0x31) (rest := [z]) rfl rfl rfl
theorem jam32 : Statement .jam32 := ofBytes (op := 0x32) (rest := []) rfl rfl rfl
theorem rlaIzy (z : Byte) : Statement (.rlaIzy z) := ofBytes (op := 0x33) (rest := [z]) rfl rfl rfl
theorem nopZpx34 (z : Byte) : Statement (.nopZpx34 z) := ofBytes (op := 0x34) (rest := [z]) rfl rfl rfl
theorem andZpx (z : Byte) : Statement (.andZpx z) := ofBytes (op := 0x35) (rest := [z]) rfl rfl rfl
theorem rolZpx (z : Byte) : Statement (.rolZpx z) := ofBytes (op := 0x36) (rest := [z]) rfl rfl rfl
theorem rlaZpx (z : Byte) : Statement (.rlaZpx z) := ofBytes (op := 0x37) (rest := [z]) rfl rfl rfl
theorem sec : Statement .sec := ofBytes (op := 0x38) (rest := []) rfl rfl rfl
theorem andAbsy (w : Addr) : Statement (.andAbsy w) := ofBytes (op := 0x39) (rest := [lo w, hi w]) rfl rfl rfl
theorem nopImpl3A : Statement .nopImpl3A := ofBytes (op := 0x3A) (rest := []) rfl rfl rfl
theorem rlaAbsy (w : Addr) : Statement (.rlaAbsy w) := ofBytes (op := 0x3B) (rest := [lo w, hi w]) rfl rfl rfl
theorem nopAbsx3C (w : Addr) : Statement (.nopAbsx3C w) := ofBytes (op := 0x3C) (rest := [lo w, hi w]) rfl rfl rfl
theorem andAbsx (w : Addr) : Statement (.andAbsx w) := ofBytes (op := 0x3D) (rest := [lo w, hi w]) rfl rfl rfl
theorem rolAbsx (w : Addr) : Statement (.rolAbsx w) := ofBytes (op := 0x3E) (rest := [lo w, hi w]) rfl rfl rfl
theorem rlaAbsx (w : Addr) : Statement (.rlaAbsx w) := ofBytes (op := 0x3F) (rest := [lo w, hi w]) rfl rfl rfl
theorem rti : Statement .rti := ofBytes (op := 0x40) (rest := []) rfl rfl rfl
theorem eorIzx (z : Byte) : Statement (.eorIzx z) := ofBytes (op := 0x41) (rest := [z]) rfl rfl rfl
theorem jam42 : Statement .jam42 := ofBytes (op := 0x42) (rest := []) rfl rfl rfl
theorem sreIzx (z : Byte) : Statement (.sreIzx z) := ofBytes (op := 0x43) (rest := [z]) rfl rfl rfl
theorem nopZp44 (z : Byte) : Statement (.nopZp44 z) := ofBytes (op := 0x44) (rest := [z]) rfl rfl rfl
theorem eorZp (z : Byte) : Statement (.eorZp z) := ofBytes (op := 0x45) (rest := [z]) rfl rfl rfl
theorem lsrZp (z : Byte) : Statement (.lsrZp z) := ofBytes (op := 0x46) (rest := [z]) rfl rfl rfl
theorem sreZp (z : Byte) : Statement (.sreZp z) := ofBytes (op := 0x47) (rest := [z]) rfl rfl rfl
theorem pha : Statement .pha := ofBytes (op := 0x48) (rest := []) rfl rfl rfl
theorem eorImm (v : Byte) : Statement (.eorImm v) := ofBytes (op := 0x49) (rest := [v]) rfl rfl rfl
theorem lsrAcc : Statement .lsrAcc := ofBytes (op := 0x4A) (rest := []) rfl rfl rfl
theorem alrImm (v : Byte) : Statement (.alrImm v) := ofBytes (op := 0x4B) (rest := [v]) rfl rfl rfl
theorem jmpAbs (w : Addr) : Statement (.jmpAbs w) := ofBytes (op := 0x4C) (rest := [lo w, hi w]) rfl rfl rfl
theorem eorAbs (w : Addr) : Statement (.eorAbs w) := ofBytes (op := 0x4D) (rest := [lo w, hi w]) rfl rfl rfl
theorem lsrAbs (w : Addr) : Statement (.lsrAbs w) := ofBytes (op := 0x4E) (rest := [lo w, hi w]) rfl rfl rfl
theorem sreAbs (w : Addr) : Statement (.sreAbs w) := ofBytes (op := 0x4F) (rest := [lo w, hi w]) rfl rfl rfl
theorem bvc (o : Byte) : Statement (.bvc o) := ofBytes (op := 0x50) (rest := [o]) rfl rfl rfl
theorem eorIzy (z : Byte) : Statement (.eorIzy z) := ofBytes (op := 0x51) (rest := [z]) rfl rfl rfl
theorem jam52 : Statement .jam52 := ofBytes (op := 0x52) (rest := []) rfl rfl rfl
theorem sreIzy (z : Byte) : Statement (.sreIzy z) := ofBytes (op := 0x53) (rest := [z]) rfl rfl rfl
theorem nopZpx54 (z : Byte) : Statement (.nopZpx54 z) := ofBytes (op := 0x54) (rest := [z]) rfl rfl rfl
theorem eorZpx (z : Byte) : Statement (.eorZpx z) := ofBytes (op := 0x55) (rest := [z]) rfl rfl rfl
theorem lsrZpx (z : Byte) : Statement (.lsrZpx z) := ofBytes (op := 0x56) (rest := [z]) rfl rfl rfl
theorem sreZpx (z : Byte) : Statement (.sreZpx z) := ofBytes (op := 0x57) (rest := [z]) rfl rfl rfl
theorem cli : Statement .cli := ofBytes (op := 0x58) (rest := []) rfl rfl rfl
theorem eorAbsy (w : Addr) : Statement (.eorAbsy w) := ofBytes (op := 0x59) (rest := [lo w, hi w]) rfl rfl rfl
theorem nopImpl5A : Statement .nopImpl5A := ofBytes (op := 0x5A) (rest := []) rfl rfl rfl
theorem sreAbsy (w : Addr) : Statement (.sreAbsy w) := ofBytes (op := 0x5B) (rest := [lo w, hi w]) rfl rfl rfl
theorem nopAbsx5C (w : Addr) : Statement (.nopAbsx5C w) := ofBytes (op := 0x5C) (rest := [lo w, hi w]) rfl rfl rfl
theorem eorAbsx (w : Addr) : Statement (.eorAbsx w) := ofBytes (op := 0x5D) (rest := [lo w, hi w]) rfl rfl rfl
theorem lsrAbsx (w : Addr) : Statement (.lsrAbsx w) := ofBytes (op := 0x5E) (rest := [lo w, hi w]) rfl rfl rfl
theorem sreAbsx (w : Addr) : Statement (.sreAbsx w) := ofBytes (op := 0x5F) (rest := [lo w, hi w]) rfl rfl rfl
theorem rts : Statement .rts := ofBytes (op := 0x60) (rest := []) rfl rfl rfl
theorem adcIzx (z : Byte) : Statement (.adcIzx z) := ofBytes (op := 0x61) (rest := [z]) rfl rfl rfl
theorem jam62 : Statement .jam62 := ofBytes (op := 0x62) (rest := []) rfl rfl rfl
theorem rraIzx (z : Byte) : Statement (.rraIzx z) := ofBytes (op := 0x63) (rest := [z]) rfl rfl rfl
theorem nopZp64 (z : Byte) : Statement (.nopZp64 z) := ofBytes (op := 0x64) (rest := [z]) rfl rfl rfl
theorem adcZp (z : Byte) : Statement (.adcZp z) := ofBytes (op := 0x65) (rest := [z]) rfl rfl rfl
theorem rorZp (z : Byte) : Statement (.rorZp z) := ofBytes (op := 0x66) (rest := [z]) rfl rfl rfl
theorem rraZp (z : Byte) : Statement (.rraZp z) := ofBytes (op := 0x67) (rest := [z]) rfl rfl rfl
theorem pla : Statement .pla := ofBytes (op := 0x68) (rest := []) rfl rfl rfl
theorem adcImm (v : Byte) : Statement (.adcImm v) := ofBytes (op := 0x69) (rest := [v]) rfl rfl rfl
theorem rorAcc : Statement .rorAcc := ofBytes (op := 0x6A) (rest := []) rfl rfl rfl
theorem arrImm (v : Byte) : Statement (.arrImm v) := ofBytes (op := 0x6B) (rest := [v]) rfl rfl rfl
theorem jmpInd (w : Addr) : Statement (.jmpInd w) := ofBytes (op := 0x6C) (rest := [lo w, hi w]) rfl rfl rfl
theorem adcAbs (w : Addr) : Statement (.adcAbs w) := ofBytes (op := 0x6D) (rest := [lo w, hi w]) rfl rfl rfl
theorem rorAbs (w : Addr) : Statement (.rorAbs w) := ofBytes (op := 0x6E) (rest := [lo w, hi w]) rfl rfl rfl
theorem rraAbs (w : Addr) : Statement (.rraAbs w) := ofBytes (op := 0x6F) (rest := [lo w, hi w]) rfl rfl rfl
theorem bvs (o : Byte) : Statement (.bvs o) := ofBytes (op := 0x70) (rest := [o]) rfl rfl rfl
theorem adcIzy (z : Byte) : Statement (.adcIzy z) := ofBytes (op := 0x71) (rest := [z]) rfl rfl rfl
theorem jam72 : Statement .jam72 := ofBytes (op := 0x72) (rest := []) rfl rfl rfl
theorem rraIzy (z : Byte) : Statement (.rraIzy z) := ofBytes (op := 0x73) (rest := [z]) rfl rfl rfl
theorem nopZpx74 (z : Byte) : Statement (.nopZpx74 z) := ofBytes (op := 0x74) (rest := [z]) rfl rfl rfl
theorem adcZpx (z : Byte) : Statement (.adcZpx z) := ofBytes (op := 0x75) (rest := [z]) rfl rfl rfl
theorem rorZpx (z : Byte) : Statement (.rorZpx z) := ofBytes (op := 0x76) (rest := [z]) rfl rfl rfl
theorem rraZpx (z : Byte) : Statement (.rraZpx z) := ofBytes (op := 0x77) (rest := [z]) rfl rfl rfl
theorem sei : Statement .sei := ofBytes (op := 0x78) (rest := []) rfl rfl rfl
theorem adcAbsy (w : Addr) : Statement (.adcAbsy w) := ofBytes (op := 0x79) (rest := [lo w, hi w]) rfl rfl rfl
theorem nopImpl7A : Statement .nopImpl7A := ofBytes (op := 0x7A) (rest := []) rfl rfl rfl
theorem rraAbsy (w : Addr) : Statement (.rraAbsy w) := ofBytes (op := 0x7B) (rest := [lo w, hi w]) rfl rfl rfl
theorem nopAbsx7C (w : Addr) : Statement (.nopAbsx7C w) := ofBytes (op := 0x7C) (rest := [lo w, hi w]) rfl rfl rfl
theorem adcAbsx (w : Addr) : Statement (.adcAbsx w) := ofBytes (op := 0x7D) (rest := [lo w, hi w]) rfl rfl rfl
theorem rorAbsx (w : Addr) : Statement (.rorAbsx w) := ofBytes (op := 0x7E) (rest := [lo w, hi w]) rfl rfl rfl
theorem rraAbsx (w : Addr) : Statement (.rraAbsx w) := ofBytes (op := 0x7F) (rest := [lo w, hi w]) rfl rfl rfl
theorem nopImm80 (v : Byte) : Statement (.nopImm80 v) := ofBytes (op := 0x80) (rest := [v]) rfl rfl rfl
theorem staIzx (z : Byte) : Statement (.staIzx z) := ofBytes (op := 0x81) (rest := [z]) rfl rfl rfl
theorem nopImm82 (v : Byte) : Statement (.nopImm82 v) := ofBytes (op := 0x82) (rest := [v]) rfl rfl rfl
theorem saxIzx (z : Byte) : Statement (.saxIzx z) := ofBytes (op := 0x83) (rest := [z]) rfl rfl rfl
theorem styZp (z : Byte) : Statement (.styZp z) := ofBytes (op := 0x84) (rest := [z]) rfl rfl rfl
theorem staZp (z : Byte) : Statement (.staZp z) := ofBytes (op := 0x85) (rest := [z]) rfl rfl rfl
theorem stxZp (z : Byte) : Statement (.stxZp z) := ofBytes (op := 0x86) (rest := [z]) rfl rfl rfl
theorem saxZp (z : Byte) : Statement (.saxZp z) := ofBytes (op := 0x87) (rest := [z]) rfl rfl rfl
theorem dey : Statement .dey := ofBytes (op := 0x88) (rest := []) rfl rfl rfl
theorem nopImm89 (v : Byte) : Statement (.nopImm89 v) := ofBytes (op := 0x89) (rest := [v]) rfl rfl rfl
theorem txa : Statement .txa := ofBytes (op := 0x8A) (rest := []) rfl rfl rfl
theorem xaaImm (v : Byte) : Statement (.xaaImm v) := ofBytes (op := 0x8B) (rest := [v]) rfl rfl rfl
theorem styAbs (w : Addr) : Statement (.styAbs w) := ofBytes (op := 0x8C) (rest := [lo w, hi w]) rfl rfl rfl
theorem staAbs (w : Addr) : Statement (.staAbs w) := ofBytes (op := 0x8D) (rest := [lo w, hi w]) rfl rfl rfl
theorem stxAbs (w : Addr) : Statement (.stxAbs w) := ofBytes (op := 0x8E) (rest := [lo w, hi w]) rfl rfl rfl
theorem saxAbs (w : Addr) : Statement (.saxAbs w) := ofBytes (op := 0x8F) (rest := [lo w, hi w]) rfl rfl rfl
theorem bcc (o : Byte) : Statement (.bcc o) := ofBytes (op := 0x90) (rest := [o]) rfl rfl rfl
theorem staIzy (z : Byte) : Statement (.staIzy z) := ofBytes (op := 0x91) (rest := [z]) rfl rfl rfl
theorem jam92 : Statement .jam92 := ofBytes (op := 0x92) (rest := []) rfl rfl rfl
theorem ahxIzy (z : Byte) : Statement (.ahxIzy z) := ofBytes (op := 0x93) (rest := [z]) rfl rfl rfl
theorem styZpx (z : Byte) : Statement (.styZpx z) := ofBytes (op := 0x94) (rest := [z]) rfl rfl rfl
theorem staZpx (z : Byte) : Statement (.staZpx z) := ofBytes (op := 0x95) (rest := [z]) rfl rfl rfl
theorem stxZpy (z : Byte) : Statement (.stxZpy z) := ofBytes (op := 0x96) (rest := [z]) rfl rfl rfl
theorem saxZpy (z : Byte) : Statement (.saxZpy z) := ofBytes (op := 0x97) (rest := [z]) rfl rfl rfl
theorem tya : Statement .tya := ofBytes (op := 0x98) (rest := []) rfl rfl rfl
theorem staAbsy (w : Addr) : Statement (.staAbsy w) := ofBytes (op := 0x99) (rest := [lo w, hi w]) rfl rfl rfl
theorem txs : Statement .txs := ofBytes (op := 0x9A) (rest := []) rfl rfl rfl
theorem tasAbsy (w : Addr) : Statement (.tasAbsy w) := ofBytes (op := 0x9B) (rest := [lo w, hi w]) rfl rfl rfl
theorem shyAbsx (w : Addr) : Statement (.shyAbsx w) := ofBytes (op := 0x9C) (rest := [lo w, hi w]) rfl rfl rfl
theorem staAbsx (w : Addr) : Statement (.staAbsx w) := ofBytes (op := 0x9D) (rest := [lo w, hi w]) rfl rfl rfl
theorem shxAbsy (w : Addr) : Statement (.shxAbsy w) := ofBytes (op := 0x9E) (rest := [lo w, hi w]) rfl rfl rfl
theorem ahxAbsy (w : Addr) : Statement (.ahxAbsy w) := ofBytes (op := 0x9F) (rest := [lo w, hi w]) rfl rfl rfl
theorem ldyImm (v : Byte) : Statement (.ldyImm v) := ofBytes (op := 0xA0) (rest := [v]) rfl rfl rfl
theorem ldaIzx (z : Byte) : Statement (.ldaIzx z) := ofBytes (op := 0xA1) (rest := [z]) rfl rfl rfl
theorem ldxImm (v : Byte) : Statement (.ldxImm v) := ofBytes (op := 0xA2) (rest := [v]) rfl rfl rfl
theorem laxIzx (z : Byte) : Statement (.laxIzx z) := ofBytes (op := 0xA3) (rest := [z]) rfl rfl rfl
theorem ldyZp (z : Byte) : Statement (.ldyZp z) := ofBytes (op := 0xA4) (rest := [z]) rfl rfl rfl
theorem ldaZp (z : Byte) : Statement (.ldaZp z) := ofBytes (op := 0xA5) (rest := [z]) rfl rfl rfl
theorem ldxZp (z : Byte) : Statement (.ldxZp z) := ofBytes (op := 0xA6) (rest := [z]) rfl rfl rfl
theorem laxZp (z : Byte) : Statement (.laxZp z) := ofBytes (op := 0xA7) (rest := [z]) rfl rfl rfl
theorem tay : Statement .tay := ofBytes (op := 0xA8) (rest := []) rfl rfl rfl
theorem ldaImm (v : Byte) : Statement (.ldaImm v) := ofBytes (op := 0xA9) (rest := [v]) rfl rfl rfl
theorem tax : Statement .tax := ofBytes (op := 0xAA) (rest := []) rfl rfl rfl
theorem laxImm (v : Byte) : Statement (.laxImm v) := ofBytes (op := 0xAB) (rest := [v]) rfl rfl rfl
theorem ldyAbs (w : Addr) : Statement (.ldyAbs w) := ofBytes (op := 0xAC) (rest := [lo w, hi w]) rfl rfl rfl
theorem ldaAbs (w : Addr) : Statement (.ldaAbs w) := ofBytes (op := 0xAD) (rest := [lo w, hi w]) rfl rfl rfl
theorem ldxAbs (w : Addr) : Statement (.ldxAbs w) := ofBytes (op := 0xAE) (rest := [lo w, hi w]) rfl rfl rfl
theorem laxAbs (w : Addr) : Statement (.laxAbs w) := ofBytes (op := 0xAF) (rest := [lo w, hi w]) rfl rfl rfl
theorem bcs (o : Byte) : Statement (.bcs o) := ofBytes (op := 0xB0) (rest := [o]) rfl rfl rfl
theorem ldaIzy (z : Byte) : Statement (.ldaIzy z) := ofBytes (op := 0xB1) (rest := [z]) rfl rfl rfl
theorem jamB2 : Statement .jamB2 := ofBytes (op := 0xB2) (rest := []) rfl rfl rfl
theorem laxIzy (z : Byte) : Statement (.laxIzy z) := ofBytes (op := 0xB3) (rest := [z]) rfl rfl rfl
theorem ldyZpx (z : Byte) : Statement (.ldyZpx z) := ofBytes (op := 0xB4) (rest := [z]) rfl rfl rfl
theorem ldaZpx (z : Byte) : Statement (.ldaZpx z) := ofBytes (op := 0xB5) (rest := [z]) rfl rfl rfl
theorem ldxZpy (z : Byte) : Statement (.ldxZpy z) := ofBytes (op := 0xB6) (rest := [z]) rfl rfl rfl
theorem laxZpy (z : Byte) : Statement (.laxZpy z) := ofBytes (op := 0xB7) (rest := [z]) rfl rfl rfl
theorem clv : Statement .clv := ofBytes (op := 0xB8) (rest := []) rfl rfl rfl
theorem ldaAbsy (w : Addr) : Statement (.ldaAbsy w) := ofBytes (op := 0xB9) (rest := [lo w, hi w]) rfl rfl rfl
theorem tsx : Statement .tsx := ofBytes (op := 0xBA) (rest := []) rfl rfl rfl
theorem lasAbsy (w : Addr) : Statement (.lasAbsy w) := ofBytes (op := 0xBB) (rest := [lo w, hi w]) rfl rfl rfl
theorem ldyAbsx (w : Addr) : Statement (.ldyAbsx w) := ofBytes (op := 0xBC) (rest := [lo w, hi w]) rfl rfl rfl
theorem ldaAbsx (w : Addr) : Statement (.ldaAbsx w) := ofBytes (op := 0xBD) (rest := [lo w, hi w]) rfl rfl rfl
theorem ldxAbsy (w : Addr) : Statement (.ldxAbsy w) := ofBytes (op := 0xBE) (rest := [lo w, hi w]) rfl rfl rfl
theorem laxAbsy (w : Addr) : Statement (.laxAbsy w) := ofBytes (op := 0xBF) (rest := [lo w, hi w]) rfl rfl rfl
theorem cpyImm (v : Byte) : Statement (.cpyImm v) := ofBytes (op := 0xC0) (rest := [v]) rfl rfl rfl
theorem cmpIzx (z : Byte) : Statement (.cmpIzx z) := ofBytes (op := 0xC1) (rest := [z]) rfl rfl rfl
theorem nopImmC2 (v : Byte) : Statement (.nopImmC2 v) := ofBytes (op := 0xC2) (rest := [v]) rfl rfl rfl
theorem dcpIzx (z : Byte) : Statement (.dcpIzx z) := ofBytes (op := 0xC3) (rest := [z]) rfl rfl rfl
theorem cpyZp (z : Byte) : Statement (.cpyZp z) := ofBytes (op := 0xC4) (rest := [z]) rfl rfl rfl
theorem cmpZp (z : Byte) : Statement (.cmpZp z) := ofBytes (op := 0xC5) (rest := [z]) rfl rfl rfl
theorem decZp (z : Byte) : Statement (.decZp z) := ofBytes (op := 0xC6) (rest := [z]) rfl rfl rfl
theorem dcpZp (z : Byte) : Statement (.dcpZp z) := ofBytes (op := 0xC7) (rest := [z]) rfl rfl rfl
theorem iny : Statement .iny := ofBytes (op := 0xC8) (rest := []) rfl rfl rfl
theorem cmpImm (v : Byte) : Statement (.cmpImm v) := ofBytes (op := 0xC9) (rest := [v]) rfl rfl rfl
theorem dex : Statement .dex := ofBytes (op := 0xCA) (rest := []) rfl rfl rfl
theorem axsImm (v : Byte) : Statement (.axsImm v) := ofBytes (op := 0xCB) (rest := [v]) rfl rfl rfl
theorem cpyAbs (w : Addr) : Statement (.cpyAbs w) := ofBytes (op := 0xCC) (rest := [lo w, hi w]) rfl rfl rfl
theorem cmpAbs (w : Addr) : Statement (.cmpAbs w) := ofBytes (op := 0xCD) (rest := [lo w, hi w]) rfl rfl rfl
theorem decAbs (w : Addr) : Statement (.decAbs w) := ofBytes (op := 0xCE) (rest := [lo w, hi w]) rfl rfl rfl
theorem dcpAbs (w : Addr) : Statement (.dcpAbs w) := ofBytes (op := 0xCF) (rest := [lo w, hi w]) rfl rfl rfl
theorem bne (o : Byte) : Statement (.bne o) := ofBytes (op := 0xD0) (rest := [o]) rfl rfl rfl
theorem cmpIzy (z : Byte) : Statement (.cmpIzy z) := ofBytes (op := 0xD1) (rest := [z]) rfl rfl rfl
theorem jamD2 : Statement .jamD2 := ofBytes (op := 0xD2) (rest := []) rfl rfl rfl
theorem dcpIzy (z : Byte) : Statement (.dcpIzy z) := ofBytes (op := 0xD3) (rest := [z]) rfl rfl rfl
theorem nopZpxD4 (z : Byte) : Statement (.nopZpxD4 z) := ofBytes (op := 0xD4) (rest := [z]) rfl rfl rfl
theorem cmpZpx (z : Byte) : Statement (.cmpZpx z) := ofBytes (op := 0xD5) (rest := [z]) rfl rfl rfl
theorem decZpx (z : Byte) : Statement (.decZpx z) := ofBytes (op := 0xD6) (rest := [z]) rfl rfl rfl
theorem dcpZpx (z : Byte) : Statement (.dcpZpx z) := ofBytes (op := 0xD7) (rest := [z]) rfl rfl rfl
theorem cld : Statement .cld := ofBytes (op := 0xD8) (rest := []) rfl rfl rfl
theorem cmpAbsy (w : Addr) : Statement (.cmpAbsy w) := ofBytes (op := 0xD9) (rest := [lo w, hi w]) rfl rfl rfl
theorem nopImplDA : Statement .nopImplDA := ofBytes (op := 0xDA) (rest := []) rfl rfl rfl
theorem dcpAbsy (w : Addr) : Statement (.dcpAbsy w) := ofBytes (op := 0xDB) (rest := [lo w, hi w]) rfl rfl rfl
theorem nopAbsxDC (w : Addr) : Statement (.nopAbsxDC w) := ofBytes (op := 0xDC) (rest := [lo w, hi w]) rfl rfl rfl
theorem cmpAbsx (w : Addr) : Statement (.cmpAbsx w) := ofBytes (op := 0xDD) (rest := [lo w, hi w]) rfl rfl rfl
theorem decAbsx (w : Addr) : Statement (.decAbsx w) := ofBytes (op := 0xDE) (rest := [lo w, hi w]) rfl rfl rfl
theorem dcpAbsx (w : Addr) : Statement (.dcpAbsx w) := ofBytes (op := 0xDF) (rest := [lo w, hi w]) rfl rfl rfl
theorem cpxImm (v : Byte) : Statement (.cpxImm v) := ofBytes (op := 0xE0) (rest := [v]) rfl rfl rfl
theorem sbcIzx (z : Byte) : Statement (.sbcIzx z) := ofBytes (op := 0xE1) (rest := [z]) rfl rfl rfl
theorem nopImmE2 (v : Byte) : Statement (.nopImmE2 v) := ofBytes (op := 0xE2) (rest := [v]) rfl rfl rfl
theorem isbIzx (z : Byte) : Statement (.isbIzx z) := ofBytes (op := 0xE3) (rest := [z]) rfl rfl rfl
theorem cpxZp (z : Byte) : Statement (.cpxZp z) := ofBytes (op := 0xE4) (rest := [z]) rfl rfl rfl
theorem sbcZp (z : Byte) : Statement (.sbcZp z) := ofBytes (op := 0xE5) (rest := [z]) rfl rfl rfl
theorem incZp (z : Byte) : Statement (.incZp z) := ofBytes (op := 0xE6) (rest := [z]) rfl rfl rfl
theorem isbZp (z : Byte) : Statement (.isbZp z) := ofBytes (op := 0xE7) (rest := [z]) rfl rfl rfl
theorem inx : Statement .inx := ofBytes (op := 0xE8) (rest := []) rfl rfl rfl
theorem sbcImmE9 (v : Byte) : Statement (.sbcImmE9 v) := ofBytes (op := 0xE9) (rest := [v]) rfl rfl rfl
theorem nopImplEA : Statement .nopImplEA := ofBytes (op := 0xEA) (rest := []) rfl rfl rfl
theorem sbcImmEB (v : Byte) : Statement (.sbcImmEB v) := ofBytes (op := 0xEB) (rest := [v]) rfl rfl rfl
theorem cpxAbs (w : Addr) : Statement (.cpxAbs w) := ofBytes (op := 0xEC) (rest := [lo w, hi w]) rfl rfl rfl
theorem sbcAbs (w : Addr) : Statement (.sbcAbs w) := ofBytes (op := 0xED) (rest := [lo w, hi w]) rfl rfl rfl
theorem incAbs (w : Addr) : Statement (.incAbs w) := ofBytes (op := 0xEE) (rest := [lo w, hi w]) rfl rfl rfl
theorem isbAbs (w : Addr) : Statement (.isbAbs w) := ofBytes (op := 0xEF) (rest := [lo w, hi w]) rfl rfl rfl
theorem beq (o : Byte) : Statement (.beq o) := ofBytes (op := 0xF0) (rest := [o]) rfl rfl rfl
theorem sbcIzy (z : Byte) : Statement (.sbcIzy z) := ofBytes (op := 0xF1) (rest := [z]) rfl rfl rfl
theorem jamF2 : Statement .jamF2 := ofBytes (op := 0xF2) (rest := []) rfl rfl rfl
theorem isbIzy (z : Byte) : Statement (.isbIzy z) := ofBytes (op := 0xF3) (rest := [z]) rfl rfl rfl
theorem nopZpxF4 (z : Byte) : Statement (.nopZpxF4 z) := ofBytes (op := 0xF4) (rest := [z]) rfl rfl rfl
theorem sbcZpx (z : Byte) : Statement (.sbcZpx z) := ofBytes (op := 0xF5) (rest := [z]) rfl rfl rfl
theorem incZpx (z : Byte) : Statement (.incZpx z) := ofBytes (op := 0xF6) (rest := [z]) rfl rfl rfl
theorem isbZpx (z : Byte) : Statement (.isbZpx z) := ofBytes (op := 0xF7) (rest := [z]) rfl rfl rfl
theorem sed : Statement .sed := ofBytes (op := 0xF8) (rest := []) rfl rfl rfl
theorem sbcAbsy (w : Addr) : Statement (.sbcAbsy w) := ofBytes (op := 0xF9) (rest := [lo w, hi w]) rfl rfl rfl
theorem nopImplFA : Statement .nopImplFA := ofBytes (op := 0xFA) (rest := []) rfl rfl rfl
theorem isbAbsy (w : Addr) : Statement (.isbAbsy w) := ofBytes (op := 0xFB) (rest := [lo w, hi w]) rfl rfl rfl
theorem nopAbsxFC (w : Addr) : Statement (.nopAbsxFC w) := ofBytes (op := 0xFC) (rest := [lo w, hi w]) rfl rfl rfl
theorem sbcAbsx (w : Addr) : Statement (.sbcAbsx w) := ofBytes (op := 0xFD) (rest := [lo w, hi w]) rfl rfl rfl
theorem incAbsx (w : Addr) : Statement (.incAbsx w) := ofBytes (op := 0xFE) (rest := [lo w, hi w]) rfl rfl rfl
theorem isbAbsx (w : Addr) : Statement (.isbAbsx w) := ofBytes (op := 0xFF) (rest := [lo w, hi w]) rfl rfl rfl

end Sys2Proof.Laws.EncodeShape
end

