-- ==== Sys2Proof/Laws/RingBuffer.lean ====
section
/-!
SUPPORT. The ring: reading back a slot written, slots of indices less than RING_CAP apart, views that stay between what was seen and what is
there, and scaled samples that fit an element.
-/

namespace Sys2Proof.Machine

/-- A slot written is read back, and every other slot reads as before. -/
theorem slotRead_write (n : Nat) (m : List (Nat × Elem)) (k j : Nat) (q : Elem) :
    slotRead n (slotWrite m k q) j = if j = k then q else slotRead n m j := by
  induction m with
  | nil =>
    by_cases h : k = j
    · simp [slotWrite, slotRead, h]
    · simp [slotWrite, slotRead, h, Ne.symm h]
  | cons c rest ih =>
    obtain ⟨i, u⟩ := c
    by_cases h1 : k < i
    · rw [slotWrite, if_pos h1, slotRead]
      by_cases hj : k = j
      · rw [if_pos hj, if_pos hj.symm]
      · rw [if_neg hj, if_neg (Ne.symm hj)]
    · by_cases h2 : k = i
      · rw [slotWrite, if_neg h1, if_pos h2, slotRead, slotRead, ← h2]
        by_cases hj : k = j
        · rw [if_pos hj, if_pos hj.symm]
        · rw [if_neg hj, if_neg (Ne.symm hj), if_neg hj]
      · rw [slotWrite, if_neg h1, if_neg h2, slotRead, slotRead, ih]
        by_cases hi : i = j
        · rw [if_pos hi, if_pos hi, if_neg (by omega)]
        · rw [if_neg hi, if_neg hi]

theorem slotWrite_mem {m : List (Nat × Elem)} {k : Nat} {q : Elem} {c : Nat × Elem} (h : c ∈ slotWrite m k q) :
    c = (k, q) ∨ c ∈ m := by
  induction m with
  | nil => simpa [slotWrite] using h
  | cons d rest ih =>
    obtain ⟨i, u⟩ := d
    unfold slotWrite at h
    split_ifs at h with h1 h2
    · simpa using h
    · rcases List.mem_cons.1 h with h | h
      · exact Or.inl h
      · exact Or.inr (List.mem_cons_of_mem _ h)
    · rcases List.mem_cons.1 h with h | h
      · exact Or.inr (by simp [h])
      · exact (ih h).imp id (List.mem_cons_of_mem _)

/-- A slot write keeps the slots legal. -/
theorem slotWrite_ok {cap bits : Nat} {m : List (Nat × Elem)} (h : SlotsOk cap bits m) {k : Nat} (hk : k < cap) {q : Elem}
    (hq : ElemOk bits q) : SlotsOk cap bits (slotWrite m k q) := by
  refine ⟨?_, fun c hc => ?_⟩
  · have hs := h.1
    clear h
    induction m with
    | nil => simp [slotWrite]
    | cons d rest ih =>
      obtain ⟨i, u⟩ := d
      obtain ⟨hc, hr⟩ := List.pairwise_cons.1 hs
      unfold slotWrite
      split_ifs with h1 h2
      · refine List.pairwise_cons.2 ⟨?_, hs⟩
        intro e he
        rcases List.mem_cons.1 he with rfl | he
        · exact h1
        · exact lt_trans h1 (hc e he)
      · subst h2; exact List.pairwise_cons.2 ⟨hc, hr⟩
      · refine List.pairwise_cons.2 ⟨fun e he => ?_, ih hr⟩
        rcases slotWrite_mem he with rfl | he
        · show i < k; omega
        · exact hc e he
  · rcases slotWrite_mem hc with rfl | hc
    · exact ⟨hk, hq⟩
    · exact h.2 c hc

/-- A slot read of legal slots is an element. -/
theorem slotRead_ok {cap bits : Nat} {m : List (Nat × Elem)} (h : SlotsOk cap bits m) (k : Nat) :
    ElemOk bits (slotRead bits m k) := by
  obtain ⟨-, h⟩ := h
  induction m with
  | nil =>
    simp only [slotRead, ElemOk, BitVec.toNat_ofNat]
    have h1 : (Config.ringSlot k).toNat % 2 ^ bits < 2 ^ bits := Nat.mod_lt _ (by positivity)
    exact lt_of_le_of_lt (Nat.mod_le _ _) h1
  | cons c rest ih =>
    obtain ⟨i, u⟩ := c
    unfold slotRead
    split_ifs
    · exact (h (i, u) (by simp)).2
    · exact ih (fun d hd => h d (by simp [hd]))

/-- R8: what `ringCapOk` says: RING_CAP is a power of two up to 2^31. -/
theorem ringCap_pow {p : Params} (h : p.ringCapOk = true) : ∃ k, k ≤ 31 ∧ p.ringCap = 2 ^ k := by
  unfold Params.ringCapOk at h
  obtain ⟨k, hk, he⟩ := List.any_eq_true.1 h
  exact ⟨k, by have := List.mem_range.1 hk; omega, by simpa using he⟩

/-- R444: the slot of an index is the index mod RING_CAP. -/
theorem slotOf_eq {k : Nat} (hk : k ≤ 31) (i : Index) : slotOf (2 ^ k) i = i.toNat % 2 ^ k := by
  unfold slotOf
  have h1 : 2 ^ k ≤ 2 ^ 31 := Nat.pow_le_pow_right (by decide) hk
  rw [BitVec.toNat_and, BitVec.toNat_ofNat, Nat.mod_eq_of_lt (by omega), Nat.and_two_pow_sub_one_eq_mod]

theorem slotOf_lt {k : Nat} (hk : k ≤ 31) (i : Index) : slotOf (2 ^ k) i < 2 ^ k := by
  rw [slotOf_eq hk]
  exact Nat.mod_lt _ (by positivity)

/-- Indices less than RING_CAP apart, and not equal, have different slots. -/
theorem slotOf_ne {k : Nat} (hk : k ≤ 31) {i j : Index} (h0 : i ≠ j) (h : (i - j).toNat < 2 ^ k) :
    slotOf (2 ^ k) i ≠ slotOf (2 ^ k) j := by
  rw [slotOf_eq hk, slotOf_eq hk]
  intro he
  have h1 : (2 : Nat) ^ 32 = 2 ^ k * 2 ^ (32 - k) := by rw [← pow_add]; congr 1; omega
  have hi := i.isLt
  have hj := j.isLt
  have hd : (i - j).toNat % 2 ^ k = 0 := by
    have e : (j + (i - j)) = i := by bv_omega
    have e2 : (j.toNat + (i - j).toNat) % 2 ^ 32 = i.toNat := by rw [← BitVec.toNat_add, e]
    have e3 : (j.toNat + (i - j).toNat) % 2 ^ k = j.toNat % 2 ^ k := by
      rw [← he, ← e2, h1, Nat.mod_mul_right_mod]
    have e4 : (j.toNat + (i - j).toNat) ≡ j.toNat + 0 [MOD 2 ^ k] := by simpa [Nat.ModEq] using e3
    simpa [Nat.ModEq] using Nat.ModEq.add_left_cancel' j.toNat e4
  rw [Nat.mod_eq_of_lt h] at hd
  exact h0 (by bv_omega)

/-- R92: a view advances by at most the distance to the index there now. -/
theorem viewIndex_between (seen now : Index) (k : Nat) :
    ∃ d : Nat, d ≤ (now - seen).toNat ∧ viewIndex seen now k = seen + BitVec.ofNat 32 d :=
  ⟨k % ((now - seen).toNat + 1), Nat.lt_succ_iff.1 (Nat.mod_lt k (Nat.succ_pos _)), rfl⟩

/-- R438: a scaled sample is an element. -/
theorem scaleSample_ok {bits : Nat} (h2 : bits ≤ 16) (v : Sample) : ElemOk bits (scaleSample bits v) := by
  unfold ElemOk scaleSample
  have hp : (2 : Int) ^ bits ≤ 2 ^ 16 := pow_le_pow_right₀ (by decide) h2
  have h0 : (1 : Int) ≤ 2 ^ bits := one_le_pow₀ (by decide)
  generalize hx : max 0 (min ((v.toInt + 32768) / 2 ^ (16 - bits)) ((2 : Int) ^ bits - 1)) = x
  have hx0 : 0 ≤ x := by rw [← hx]; exact le_max_left _ _
  have hx1 : x ≤ 2 ^ bits - 1 := by
    rw [← hx]; exact max_le (by omega) (min_le_right _ _)
  have : ((BitVec.ofInt 16 x).toNat : Int) = x := by
    rw [BitVec.toNat_ofInt]
    omega
  have hc : ((2 ^ bits : Nat) : Int) = (2 : Int) ^ bits := by push_cast; rfl
  omega

theorem index_sub_nat (x : Index) (d : Nat) (hd : d ≤ x.toNat) : (x - BitVec.ofNat 32 d).toNat = x.toNat - d := by
  have hx := x.isLt
  rw [BitVec.toNat_sub, BitVec.toNat_ofNat]
  omega

theorem index_add_nat (x : Index) (d : Nat) (hd : x.toNat + d < 2 ^ 32) : (x + BitVec.ofNat 32 d).toNat = x.toNat + d := by
  have hx := x.isLt
  rw [BitVec.toNat_add, BitVec.toNat_ofNat]
  omega

/-- R441: what a distance of indices becomes when the nearer one advances. -/
theorem dist_advance_near (w s : Index) (d : Nat) (hd : d ≤ (w - s).toNat) :
    (w - (s + BitVec.ofNat 32 d)).toNat = (w - s).toNat - d := by
  rw [show w - (s + BitVec.ofNat 32 d) = w - s - BitVec.ofNat 32 d by ring]
  exact index_sub_nat _ _ hd

/-- R441: what a distance of indices becomes when the farther one advances. -/
theorem dist_advance_far (w s : Index) (d : Nat) (hd : (w - s).toNat + d < 2 ^ 32) :
    (w + BitVec.ofNat 32 d - s).toNat = (w - s).toNat + d := by
  rw [show w + BitVec.ofNat 32 d - s = w - s + BitVec.ofNat 32 d by ring]
  exact index_add_nat _ _ hd

theorem dist_zero {i j : Index} : (i - j).toNat = 0 ↔ i = j := by
  constructor
  · intro h
    have h0 : i - j = 0 := BitVec.eq_of_toNat_eq h
    rw [show i = i - j + j by ring, h0]
    ring
  · intro h
    rw [h, show j - j = 0 by ring]
    rfl

/-- R92: the producer's view of `r` keeps the index invariant. -/
theorem indices_observeRead {cap : Nat} (view : Nat → Nat) {g : Ring} (h : IndicesOk cap g) :
    IndicesOk cap (g.observeRead view) := by
  obtain ⟨h1, h2, h3, h4⟩ := h
  obtain ⟨d, hd, hv⟩ := viewIndex_between g.rSeen g.r (view g.rDraws)
  have e1 := dist_advance_near g.w g.rSeen d (by omega)
  have e2 := dist_advance_near g.r g.rSeen d hd
  refine ⟨h1, ?_, ?_, h4⟩
  · show (g.w - viewIndex g.rSeen g.r (view g.rDraws)).toNat ≤ cap
    rw [hv, e1]; omega
  · show (g.w - viewIndex g.rSeen g.r (view g.rDraws)).toNat =
      (g.w - g.r).toNat + (g.r - viewIndex g.rSeen g.r (view g.rDraws)).toNat
    rw [hv, e1, e2]; omega

/-- R92: the consumer's view of `w` keeps the index invariant. -/
theorem indices_observeWrite {cap : Nat} (view : Nat → Nat) {g : Ring} (h : IndicesOk cap g) :
    IndicesOk cap (g.observeWrite view) := by
  obtain ⟨h1, h2, h3, h4⟩ := h
  obtain ⟨d, hd, hv⟩ := viewIndex_between g.wSeen g.w (view g.wDraws)
  have hb := (g.w - g.r).isLt
  have e1 := dist_advance_near g.w g.wSeen d hd
  have e2 := dist_advance_far g.wSeen g.r d (by omega)
  refine ⟨h1, h2, h3, ?_⟩
  show (g.w - g.r).toNat = (g.w - viewIndex g.wSeen g.w (view g.wDraws)).toNat +
    (viewIndex g.wSeen g.w (view g.wDraws) - g.r).toNat
  rw [hv, e1, e2]; omega

/-- R441: a publication by the producer, with room by what it saw, keeps the index invariant. -/
theorem indices_publishWrite {cap : Nat} (hc : cap ≤ 2 ^ 31) {g : Ring} (h : IndicesOk cap g)
    (hf : (g.w - g.rSeen).toNat < cap) : IndicesOk cap g.publishWrite := by
  obtain ⟨h1, h2, h3, h4⟩ := h
  have e1 : (g.w + 1 - g.r).toNat = (g.w - g.r).toNat + 1 := dist_advance_far g.w g.r 1 (by omega)
  have e2 : (g.w + 1 - g.rSeen).toNat = (g.w - g.rSeen).toNat + 1 := dist_advance_far g.w g.rSeen 1 (by omega)
  have e3 : (g.w + 1 - g.wSeen).toNat = (g.w - g.wSeen).toNat + 1 := dist_advance_far g.w g.wSeen 1 (by omega)
  refine ⟨?_, ?_, ?_, ?_⟩
  · show (g.w + 1 - g.r).toNat ≤ cap
    rw [e1]; omega
  · show (g.w + 1 - g.rSeen).toNat ≤ cap
    rw [e2]; omega
  · show (g.w + 1 - g.rSeen).toNat = (g.w + 1 - g.r).toNat + (g.r - g.rSeen).toNat
    rw [e1, e2]; omega
  · show (g.w + 1 - g.r).toNat = (g.w + 1 - g.wSeen).toNat + (g.wSeen - g.r).toNat
    rw [e1, e3]; omega

/-- R441: a publication by the consumer, with an element there by what it saw, keeps the index invariant. -/
theorem indices_publishRead {cap : Nat} (hc : cap ≤ 2 ^ 31) {g : Ring} (q : Elem) (h : IndicesOk cap g)
    (hf : g.wSeen ≠ g.r) : IndicesOk cap (g.publishRead q) := by
  obtain ⟨h1, h2, h3, h4⟩ := h
  have h1' : (g.w - g.r).toNat ≤ cap := h1
  have hp : (g.wSeen - g.r).toNat ≠ 0 := fun h0 => hf (dist_zero.1 h0)
  have e1 : (g.w - (g.r + 1)).toNat = (g.w - g.r).toNat - 1 := dist_advance_near g.w g.r 1 (by omega)
  have e2 : (g.r + 1 - g.rSeen).toNat = (g.r - g.rSeen).toNat + 1 := dist_advance_far g.r g.rSeen 1 (by omega)
  have e3 : (g.wSeen - (g.r + 1)).toNat = (g.wSeen - g.r).toNat - 1 := dist_advance_near g.wSeen g.r 1 (by omega)
  refine ⟨?_, h2, ?_, ?_⟩
  · show (g.w - (g.r + 1)).toNat ≤ cap
    rw [e1]; omega
  · show (g.w - g.rSeen).toNat = (g.w - (g.r + 1)).toNat + (g.r + 1 - g.rSeen).toNat
    rw [e1, e2]; omega
  · show (g.w - (g.r + 1)).toNat = (g.w - g.wSeen).toNat + (g.wSeen - (g.r + 1)).toNat
    rw [e1, e3]; omega

/-- The slots of the queued elements are none of them the slot the producer writes next. -/
theorem slots_far {k : Nat} (hk : k ≤ 31) (w r : Index) (j : Nat) (hj : j < (w - r).toNat) (hlt : (w - r).toNat < 2 ^ k) :
    slotOf (2 ^ k) (r + BitVec.ofNat 32 j) ≠ slotOf (2 ^ k) w := by
  have e := dist_advance_near w r j (by omega)
  refine (slotOf_ne hk (i := w) (j := r + BitVec.ofNat 32 j) (fun h => ?_) (by omega)).symm
  have := dist_zero.2 h
  omega

/-- R442: a slot write is not seen in the queue. -/
theorem queue_store {k : Nat} (hk : k ≤ 31) (bits : Nat) {g : Ring} (q : Elem) (h : g.used < 2 ^ k) :
    (g.store (2 ^ k) q).queue (2 ^ k) bits = g.queue (2 ^ k) bits := by
  unfold Ring.queue
  apply List.map_congr_left
  intro j hj
  show slotRead bits (slotWrite g.slots _ q) (slotOf (2 ^ k) (g.r + BitVec.ofNat 32 j)) = _
  rw [slotRead_write, if_neg]
  exact slots_far hk _ _ _ (List.mem_range.1 hj) h

/-- R442: a publication by the producer appends the element of the slot of `w`. -/
theorem queue_publishWrite {cap : Nat} (hc : cap ≤ 2 ^ 31) (bits : Nat) {g : Ring} (h : g.used < cap) :
    g.publishWrite.queue cap bits = g.queue cap bits ++ [slotRead bits g.slots (slotOf cap g.w)] := by
  have h' : (g.w - g.r).toNat < cap := h
  have hu : g.publishWrite.used = g.used + 1 := dist_advance_far g.w g.r 1 (by omega)
  have e : g.r + BitVec.ofNat 32 g.used = g.w := by
    rw [Ring.used, BitVec.ofNat_toNat, BitVec.setWidth_eq]
    ring
  unfold Ring.queue
  rw [hu, List.range_succ, List.map_append, List.map_cons, List.map_nil]
  show _ ++ [slotRead bits g.slots (slotOf cap (g.r + BitVec.ofNat 32 g.used))] = _
  rw [e]
  rfl

/-- R442: a publication by the consumer removes the oldest element, the one in the slot of `r`. -/
theorem queue_publishRead (cap bits : Nat) {g : Ring} (q : Elem) (h : g.w ≠ g.r) :
    g.queue cap bits = slotRead bits g.slots (slotOf cap g.r) :: (g.publishRead q).queue cap bits := by
  have hn : (g.w - g.r).toNat ≠ 0 := fun h0 => h (dist_zero.1 h0)
  have hd : (g.w - (g.r + 1)).toNat = (g.w - g.r).toNat - 1 := dist_advance_near g.w g.r 1 (by omega)
  have hu : g.used = (g.publishRead q).used + 1 := by
    show (g.w - g.r).toNat = (g.w - (g.r + 1)).toNat + 1
    omega
  unfold Ring.queue
  rw [hu, List.range_succ_eq_map, List.map_cons, List.map_map]
  congr 1
  · simp
  · apply List.map_congr_left
    intro j _
    show slotRead bits g.slots (slotOf cap (g.r + BitVec.ofNat 32 (j + 1))) =
      slotRead bits g.slots (slotOf cap (g.r + 1 + BitVec.ofNat 32 j))
    congr 2
    rw [Nat.add_comm j 1, BitVec.ofNat_add]
    show g.r + (1 + BitVec.ofNat 32 j) = g.r + 1 + BitVec.ofNat 32 j
    ring

end Sys2Proof.Machine
end

