-- ==== Sys2Proof/Tests/Slice0.lean ====
section
/-!
SUPPORT. The model's own tests: the checks of WellFormed on ill-formed terms, the decoding of every opcode, one step of a few vectors of
95_test_vectors.md section 2, and for each statement with hypotheses a witness that meets them. Expected results are the spec's.
-/

namespace Sys2Proof.Machine.Test

/-- The parameters of the vectors: 95_test_vectors.md section 0, and small values for the rest. -/
def params (glitch : Bool) : Params :=
  { file := { loadAddr := 0x8000, imageLen := 0x8000, image := [], initAddr := 0x8000, playAddr := 0x9000, totalSongs := 2 }
    region := .pal, regLo := 0x4000, regHi := 0x4017, trapAddr := 0xF0, initBudget := 40, playBudget := 40, jamCycles := 11
    xaaMagic := 0xEE, lxaMagic := 0xEE, shGlitch := glitch, sampleRate := 44100, ringCap := 4, ringBits := 6
    hostOrder := .little }

/-- The state of the vectors: registers, and the bytes placed in RAM and in the image. -/
def start (a x y sp : Byte) (pc : Addr) (p : Byte) (bytes : List (Addr × Byte)) (glitch : Bool := false) : State :=
  bytes.foldl (fun s c => place c.1 c.2 s)
    { a := a, x := x, y := y, sp := sp, pc := pc, p := p, cycles := 0, jammed := false, ram := [], trace := []
      session := Session.initial, acc := 0, ring := Ring.initial (params glitch), producer := .idle, consumer := .idle
      params := params glitch, draws := 0 }

/-- Whether a step gives these A, X, Y, SP, PC, P and `cycles`. -/
def gives (s : State) (a x y sp : Byte) (pc : Addr) (p : Byte) (cycles : Nat) : Bool :=
  match step s with
  | .next t => t.a == a && t.x == x && t.y == y && t.sp == sp && t.pc == pc && t.p == p && t.cycles == cycles
  | .fault _ => false
  | .refused _ => false

/-- The RAM cells after a step. -/
def ramAfter (s : State) : List Host.Cell := (stepState s).ram

/-- The bus events of a step. -/
def traceAfter (s : State) : List BusEvent := (stepState s).trace

/-- The instruction of a list of bytes, where they are exactly one. -/
def decoded (bs : List Byte) : Option Instr :=
  match decode bs with
  | .ok (i, []) => some i
  | .ok (_, _ :: _) => none
  | .error _ => none

/-! ### WellFormed refuses ill-formed terms -/

theorem test_wellFormed_row : (rowOf 0xBD).wellFormed = true := by decide
theorem test_pageCrossRule : Row.wellFormed ⟨0xB5, "LDA", .zpx, .fixed 4, true, false, true, .read⟩ = false ∧
    Row.wellFormed ⟨0xBD, "LDA", .absx, .fixed 4, false, false, true, .read⟩ = false := by decide
theorem test_branchRule : Row.wellFormed ⟨0x10, "BPL", .rel, .fixed 2, false, false, true, .none⟩ = false ∧
    Row.wellFormed ⟨0xEA, "NOP", .impl, .fixed 2, false, true, true, .none⟩ = false := by decide
theorem test_cyclesRule : Row.wellFormed ⟨0xEA, "NOP", .impl, .fixed 9, false, false, true, .none⟩ = false ∧
    Row.wellFormed ⟨0xEA, "NOP", .impl, .fixed 1, false, false, true, .none⟩ = false ∧
    Row.wellFormed ⟨0xEA, "NOP", .impl, .jamCycles, false, false, true, .none⟩ = false ∧
    Row.wellFormed ⟨0x02, "JAM", .impl, .fixed 2, false, false, false, .none⟩ = false := by decide
theorem test_modeRule : Row.wellFormed ⟨0xB6, "LDA", .zpy, .fixed 4, false, false, true, .read⟩ = false ∧
    Row.wellFormed ⟨0x6C, "JSR", .ind, .fixed 5, false, false, true, .none⟩ = false := by decide
theorem test_accessRule : Row.wellFormed ⟨0x0A, "ASL", .acc, .fixed 2, false, false, true, .read⟩ = false ∧
    Row.wellFormed ⟨0x89, "STA", .imm, .fixed 2, false, false, true, .write⟩ = false ∧
    Row.wellFormed ⟨0x0A, "ASL", .acc, .fixed 2, false, false, true, .rmw⟩ = false := by decide
theorem test_wellFormed_instr : (Instr.ldaAbsx 0xFFFF).wellFormed = true ∧ Instr.jam02.wellFormed = true := by decide
theorem test_songFile : (params false).file.wellFormed ∧ ¬{ (params false).file with totalSongs := 0 }.wellFormed ∧
    ¬{ (params false).file with image := [(0x8000, 1)] }.wellFormed ∧
    ¬{ (params false).file with image := [(1, 1), (0, 1)] }.wellFormed ∧
    ¬{ (params false).file with image := [(1, 0)] }.wellFormed := by decide
theorem test_params : (params false).hostOk ∧ ¬{ params false with trapAddr := 0xFD }.hostOk ∧
    ¬{ params false with sampleRate := 0 }.hostOk ∧ ¬{ params false with sampleRate := 65536 }.hostOk ∧
    ¬{ params false with ringCap := 3 }.hostOk ∧ ¬{ params false with ringBits := 0 }.hostOk ∧
    ¬{ params false with ringBits := 17 }.hostOk := by decide

/-! ### Every opcode, from the map of 30_encoding.md R124: operand byte $34, operand word $1234 -/

theorem test_decode_0 : [[0x00], [0x01, 0x34], [0x02], [0x03, 0x34], [0x04, 0x34], [0x05, 0x34], [0x06, 0x34], [0x07, 0x34], [0x08],
    [0x09, 0x34], [0x0A], [0x0B, 0x34], [0x0C, 0x34, 0x12], [0x0D, 0x34, 0x12], [0x0E, 0x34, 0x12], [0x0F, 0x34, 0x12]].map decoded =
    [.brk, .oraIzx 0x34, .jam02, .sloIzx 0x34, .nopZp04 0x34, .oraZp 0x34, .aslZp 0x34, .sloZp 0x34, .php, .oraImm 0x34,
     .aslAcc, .ancImm0B 0x34, .nopAbs 0x1234, .oraAbs 0x1234, .aslAbs 0x1234, .sloAbs 0x1234].map (some : Instr → Option Instr) := by decide
theorem test_decode_1 : [[0x10, 0x34], [0x11, 0x34], [0x12], [0x13, 0x34], [0x14, 0x34], [0x15, 0x34], [0x16, 0x34], [0x17, 0x34], [0x18],
    [0x19, 0x34, 0x12], [0x1A], [0x1B, 0x34, 0x12], [0x1C, 0x34, 0x12], [0x1D, 0x34, 0x12], [0x1E, 0x34, 0x12],
    [0x1F, 0x34, 0x12]].map decoded =
    [.bpl 0x34, .oraIzy 0x34, .jam12, .sloIzy 0x34, .nopZpx14 0x34, .oraZpx 0x34, .aslZpx 0x34, .sloZpx 0x34, .clc,
     .oraAbsy 0x1234, .nopImpl1A, .sloAbsy 0x1234, .nopAbsx1C 0x1234, .oraAbsx 0x1234, .aslAbsx 0x1234, .sloAbsx 0x1234].map (some : Instr → Option Instr) := by decide
theorem test_decode_2 : [[0x20, 0x34, 0x12], [0x21, 0x34], [0x22], [0x23, 0x34], [0x24, 0x34], [0x25, 0x34], [0x26, 0x34], [0x27, 0x34], [0x28],
    [0x29, 0x34], [0x2A], [0x2B, 0x34], [0x2C, 0x34, 0x12], [0x2D, 0x34, 0x12], [0x2E, 0x34, 0x12], [0x2F, 0x34, 0x12]].map decoded =
    [.jsrAbs 0x1234, .andIzx 0x34, .jam22, .rlaIzx 0x34, .bitZp 0x34, .andZp 0x34, .rolZp 0x34, .rlaZp 0x34, .plp,
     .andImm 0x34, .rolAcc, .ancImm2B 0x34, .bitAbs 0x1234, .andAbs 0x1234, .rolAbs 0x1234, .rlaAbs 0x1234].map (some : Instr → Option Instr) := by decide
theorem test_decode_3 : [[0x30, 0x34], [0x31, 0x34], [0x32], [0x33, 0x34], [0x34, 0x34], [0x35, 0x34], [0x36, 0x34], [0x37, 0x34], [0x38],
    [0x39, 0x34, 0x12], [0x3A], [0x3B, 0x34, 0x12], [0x3C, 0x34, 0x12], [0x3D, 0x34, 0x12], [0x3E, 0x34, 0x12],
    [0x3F, 0x34, 0x12]].map decoded =
    [.bmi 0x34, .andIzy 0x34, .jam32, .rlaIzy 0x34, .nopZpx34 0x34, .andZpx 0x34, .rolZpx 0x34, .rlaZpx 0x34, .sec,
     .andAbsy 0x1234, .nopImpl3A, .rlaAbsy 0x1234, .nopAbsx3C 0x1234, .andAbsx 0x1234, .rolAbsx 0x1234, .rlaAbsx 0x1234].map (some : Instr → Option Instr) := by decide
theorem test_decode_4 : [[0x40], [0x41, 0x34], [0x42], [0x43, 0x34], [0x44, 0x34], [0x45, 0x34], [0x46, 0x34], [0x47, 0x34], [0x48],
    [0x49, 0x34], [0x4A], [0x4B, 0x34], [0x4C, 0x34, 0x12], [0x4D, 0x34, 0x12], [0x4E, 0x34, 0x12], [0x4F, 0x34, 0x12]].map decoded =
    [.rti, .eorIzx 0x34, .jam42, .sreIzx 0x34, .nopZp44 0x34, .eorZp 0x34, .lsrZp 0x34, .sreZp 0x34, .pha, .eorImm 0x34,
     .lsrAcc, .alrImm 0x34, .jmpAbs 0x1234, .eorAbs 0x1234, .lsrAbs 0x1234, .sreAbs 0x1234].map (some : Instr → Option Instr) := by decide
theorem test_decode_5 : [[0x50, 0x34], [0x51, 0x34], [0x52], [0x53, 0x34], [0x54, 0x34], [0x55, 0x34], [0x56, 0x34], [0x57, 0x34], [0x58],
    [0x59, 0x34, 0x12], [0x5A], [0x5B, 0x34, 0x12], [0x5C, 0x34, 0x12], [0x5D, 0x34, 0x12], [0x5E, 0x34, 0x12],
    [0x5F, 0x34, 0x12]].map decoded =
    [.bvc 0x34, .eorIzy 0x34, .jam52, .sreIzy 0x34, .nopZpx54 0x34, .eorZpx 0x34, .lsrZpx 0x34, .sreZpx 0x34, .cli,
     .eorAbsy 0x1234, .nopImpl5A, .sreAbsy 0x1234, .nopAbsx5C 0x1234, .eorAbsx 0x1234, .lsrAbsx 0x1234, .sreAbsx 0x1234].map (some : Instr → Option Instr) := by decide
theorem test_decode_6 : [[0x60], [0x61, 0x34], [0x62], [0x63, 0x34], [0x64, 0x34], [0x65, 0x34], [0x66, 0x34], [0x67, 0x34], [0x68],
    [0x69, 0x34], [0x6A], [0x6B, 0x34], [0x6C, 0x34, 0x12], [0x6D, 0x34, 0x12], [0x6E, 0x34, 0x12], [0x6F, 0x34, 0x12]].map decoded =
    [.rts, .adcIzx 0x34, .jam62, .rraIzx 0x34, .nopZp64 0x34, .adcZp 0x34, .rorZp 0x34, .rraZp 0x34, .pla, .adcImm 0x34,
     .rorAcc, .arrImm 0x34, .jmpInd 0x1234, .adcAbs 0x1234, .rorAbs 0x1234, .rraAbs 0x1234].map (some : Instr → Option Instr) := by decide
theorem test_decode_7 : [[0x70, 0x34], [0x71, 0x34], [0x72], [0x73, 0x34], [0x74, 0x34], [0x75, 0x34], [0x76, 0x34], [0x77, 0x34], [0x78],
    [0x79, 0x34, 0x12], [0x7A], [0x7B, 0x34, 0x12], [0x7C, 0x34, 0x12], [0x7D, 0x34, 0x12], [0x7E, 0x34, 0x12],
    [0x7F, 0x34, 0x12]].map decoded =
    [.bvs 0x34, .adcIzy 0x34, .jam72, .rraIzy 0x34, .nopZpx74 0x34, .adcZpx 0x34, .rorZpx 0x34, .rraZpx 0x34, .sei,
     .adcAbsy 0x1234, .nopImpl7A, .rraAbsy 0x1234, .nopAbsx7C 0x1234, .adcAbsx 0x1234, .rorAbsx 0x1234, .rraAbsx 0x1234].map (some : Instr → Option Instr) := by decide
theorem test_decode_8 : [[0x80, 0x34], [0x81, 0x34], [0x82, 0x34], [0x83, 0x34], [0x84, 0x34], [0x85, 0x34], [0x86, 0x34], [0x87, 0x34], [0x88],
    [0x89, 0x34], [0x8A], [0x8B, 0x34], [0x8C, 0x34, 0x12], [0x8D, 0x34, 0x12], [0x8E, 0x34, 0x12], [0x8F, 0x34, 0x12]].map decoded =
    [.nopImm80 0x34, .staIzx 0x34, .nopImm82 0x34, .saxIzx 0x34, .styZp 0x34, .staZp 0x34, .stxZp 0x34, .saxZp 0x34, .dey,
     .nopImm89 0x34, .txa, .xaaImm 0x34, .styAbs 0x1234, .staAbs 0x1234, .stxAbs 0x1234, .saxAbs 0x1234].map (some : Instr → Option Instr) := by decide
theorem test_decode_9 : [[0x90, 0x34], [0x91, 0x34], [0x92], [0x93, 0x34], [0x94, 0x34], [0x95, 0x34], [0x96, 0x34], [0x97, 0x34], [0x98],
    [0x99, 0x34, 0x12], [0x9A], [0x9B, 0x34, 0x12], [0x9C, 0x34, 0x12], [0x9D, 0x34, 0x12], [0x9E, 0x34, 0x12],
    [0x9F, 0x34, 0x12]].map decoded =
    [.bcc 0x34, .staIzy 0x34, .jam92, .ahxIzy 0x34, .styZpx 0x34, .staZpx 0x34, .stxZpy 0x34, .saxZpy 0x34, .tya,
     .staAbsy 0x1234, .txs, .tasAbsy 0x1234, .shyAbsx 0x1234, .staAbsx 0x1234, .shxAbsy 0x1234, .ahxAbsy 0x1234].map (some : Instr → Option Instr) := by decide
theorem test_decode_A : [[0xA0, 0x34], [0xA1, 0x34], [0xA2, 0x34], [0xA3, 0x34], [0xA4, 0x34], [0xA5, 0x34], [0xA6, 0x34], [0xA7, 0x34], [0xA8],
    [0xA9, 0x34], [0xAA], [0xAB, 0x34], [0xAC, 0x34, 0x12], [0xAD, 0x34, 0x12], [0xAE, 0x34, 0x12], [0xAF, 0x34, 0x12]].map decoded =
    [.ldyImm 0x34, .ldaIzx 0x34, .ldxImm 0x34, .laxIzx 0x34, .ldyZp 0x34, .ldaZp 0x34, .ldxZp 0x34, .laxZp 0x34, .tay,
     .ldaImm 0x34, .tax, .laxImm 0x34, .ldyAbs 0x1234, .ldaAbs 0x1234, .ldxAbs 0x1234, .laxAbs 0x1234].map (some : Instr → Option Instr) := by decide
theorem test_decode_B : [[0xB0, 0x34], [0xB1, 0x34], [0xB2], [0xB3, 0x34], [0xB4, 0x34], [0xB5, 0x34], [0xB6, 0x34], [0xB7, 0x34], [0xB8],
    [0xB9, 0x34, 0x12], [0xBA], [0xBB, 0x34, 0x12], [0xBC, 0x34, 0x12], [0xBD, 0x34, 0x12], [0xBE, 0x34, 0x12],
    [0xBF, 0x34, 0x12]].map decoded =
    [.bcs 0x34, .ldaIzy 0x34, .jamB2, .laxIzy 0x34, .ldyZpx 0x34, .ldaZpx 0x34, .ldxZpy 0x34, .laxZpy 0x34, .clv,
     .ldaAbsy 0x1234, .tsx, .lasAbsy 0x1234, .ldyAbsx 0x1234, .ldaAbsx 0x1234, .ldxAbsy 0x1234, .laxAbsy 0x1234].map (some : Instr → Option Instr) := by decide
theorem test_decode_C : [[0xC0, 0x34], [0xC1, 0x34], [0xC2, 0x34], [0xC3, 0x34], [0xC4, 0x34], [0xC5, 0x34], [0xC6, 0x34], [0xC7, 0x34], [0xC8],
    [0xC9, 0x34], [0xCA], [0xCB, 0x34], [0xCC, 0x34, 0x12], [0xCD, 0x34, 0x12], [0xCE, 0x34, 0x12], [0xCF, 0x34, 0x12]].map decoded =
    [.cpyImm 0x34, .cmpIzx 0x34, .nopImmC2 0x34, .dcpIzx 0x34, .cpyZp 0x34, .cmpZp 0x34, .decZp 0x34, .dcpZp 0x34, .iny,
     .cmpImm 0x34, .dex, .axsImm 0x34, .cpyAbs 0x1234, .cmpAbs 0x1234, .decAbs 0x1234, .dcpAbs 0x1234].map (some : Instr → Option Instr) := by decide
theorem test_decode_D : [[0xD0, 0x34], [0xD1, 0x34], [0xD2], [0xD3, 0x34], [0xD4, 0x34], [0xD5, 0x34], [0xD6, 0x34], [0xD7, 0x34], [0xD8],
    [0xD9, 0x34, 0x12], [0xDA], [0xDB, 0x34, 0x12], [0xDC, 0x34, 0x12], [0xDD, 0x34, 0x12], [0xDE, 0x34, 0x12],
    [0xDF, 0x34, 0x12]].map decoded =
    [.bne 0x34, .cmpIzy 0x34, .jamD2, .dcpIzy 0x34, .nopZpxD4 0x34, .cmpZpx 0x34, .decZpx 0x34, .dcpZpx 0x34, .cld,
     .cmpAbsy 0x1234, .nopImplDA, .dcpAbsy 0x1234, .nopAbsxDC 0x1234, .cmpAbsx 0x1234, .decAbsx 0x1234, .dcpAbsx 0x1234].map (some : Instr → Option Instr) := by decide
theorem test_decode_E : [[0xE0, 0x34], [0xE1, 0x34], [0xE2, 0x34], [0xE3, 0x34], [0xE4, 0x34], [0xE5, 0x34], [0xE6, 0x34], [0xE7, 0x34], [0xE8],
    [0xE9, 0x34], [0xEA], [0xEB, 0x34], [0xEC, 0x34, 0x12], [0xED, 0x34, 0x12], [0xEE, 0x34, 0x12], [0xEF, 0x34, 0x12]].map decoded =
    [.cpxImm 0x34, .sbcIzx 0x34, .nopImmE2 0x34, .isbIzx 0x34, .cpxZp 0x34, .sbcZp 0x34, .incZp 0x34, .isbZp 0x34, .inx,
     .sbcImmE9 0x34, .nopImplEA, .sbcImmEB 0x34, .cpxAbs 0x1234, .sbcAbs 0x1234, .incAbs 0x1234, .isbAbs 0x1234].map (some : Instr → Option Instr) := by decide
theorem test_decode_F : [[0xF0, 0x34], [0xF1, 0x34], [0xF2], [0xF3, 0x34], [0xF4, 0x34], [0xF5, 0x34], [0xF6, 0x34], [0xF7, 0x34], [0xF8],
    [0xF9, 0x34, 0x12], [0xFA], [0xFB, 0x34, 0x12], [0xFC, 0x34, 0x12], [0xFD, 0x34, 0x12], [0xFE, 0x34, 0x12],
    [0xFF, 0x34, 0x12]].map decoded =
    [.beq 0x34, .sbcIzy 0x34, .jamF2, .isbIzy 0x34, .nopZpxF4 0x34, .sbcZpx 0x34, .incZpx 0x34, .isbZpx 0x34, .sed,
     .sbcAbsy 0x1234, .nopImplFA, .isbAbsy 0x1234, .nopAbsxFC 0x1234, .sbcAbsx 0x1234, .incAbsx 0x1234, .isbAbsx 0x1234].map (some : Instr → Option Instr) := by decide
theorem test_decode_truncated : decode [] = .error .noBytes ∧ decode [0xAD, 0x34] = .error (.truncated 0xAD) := by decide
theorem test_tableWord : decodeTableWord 16 0x42A9 = some (.ldaImm 0x42) ∧ decodeTableWord 8 0xA9 = some (.ldaImm 0x00) := by decide
theorem test_fetchWord : gives (State.reset.withFetchWord 16 0x42A9) 0x42 0x00 0x00 0xFD 0x0002 0x24 2 = true := by decide

/-! ### One step each, 95_test_vectors.md section 2 -/

/-- LS4 `LDA $F0,X`. -/
theorem test_LS4 : gives (start 0x00 0x20 0x00 0xFD 0x8000 0x24 [(0x8000, 0xB5), (0x8001, 0xF0), (0x0010, 0x33)])
    0x33 0x20 0x00 0xFD 0x8002 0x24 4 = true := by decide

/-- LS5 `LDA $80F0,X`. -/
theorem test_LS5 : gives (start 0x00 0x20 0x00 0xFD 0x8000 0x24 [(0x8000, 0xBD), (0x8001, 0xF0), (0x8002, 0x80), (0x8110, 0x44)])
    0x44 0x20 0x00 0xFD 0x8003 0x24 5 = true := by decide

/-- LS7 `LDA $FFFF,Y`. -/
theorem test_LS7 : gives (start 0x00 0x00 0x01 0xFD 0x8000 0x24 [(0x8000, 0xB9), (0x8001, 0xFF), (0x8002, 0xFF), (0x0000, 0x99)])
    0x99 0x00 0x01 0xFD 0x8003 0xA4 5 = true := by decide

/-- LS8 `LDA ($FF,X)`. -/
theorem test_LS8 : gives (start 0x00 0x00 0x00 0xFD 0x8000 0x24 [(0x8000, 0xA1), (0x8001, 0xFF), (0x0000, 0x02), (0x00FF, 0x34), (0x0234, 0x5A)])
    0x5A 0x00 0x00 0xFD 0x8002 0x24 6 = true := by decide

/-- LS9 `LDA ($40),Y`. -/
theorem test_LS9 : gives (start 0x00 0x00 0x10 0xFD 0x8000 0x24 [(0x8000, 0xB1), (0x8001, 0x40), (0x0040, 0xF8), (0x0041, 0x02), (0x0308, 0xC3)])
    0xC3 0x00 0x10 0xFD 0x8002 0xA4 6 = true := by decide

/-- LS12 `LDA $2002`. -/
theorem test_LS12 : gives (start 0x00 0x00 0x00 0xFD 0x8000 0x24 [(0x8000, 0xAD), (0x8001, 0x02), (0x8002, 0x20)])
    0x00 0x00 0x00 0xFD 0x8003 0x26 4 = true := by decide

/-- LS15 `LDX $FF,Y`. -/
theorem test_LS15 : gives (start 0x00 0x00 0x02 0xFD 0x8000 0x24 [(0x8000, 0xB6), (0x8001, 0xFF), (0x0001, 0x80)])
    0x00 0x80 0x02 0xFD 0x8002 0xA4 4 = true := by decide

/-- LS17 `STA $1FFF`. -/
theorem test_LS17 : gives (start 0x77 0x00 0x00 0xFD 0x8000 0x24 [(0x8000, 0x8D), (0x8001, 0xFF), (0x8002, 0x1F)])
    0x77 0x00 0x00 0xFD 0x8003 0x24 4 = true ∧
    ramAfter (start 0x77 0x00 0x00 0xFD 0x8000 0x24 [(0x8000, 0x8D), (0x8001, 0xFF), (0x8002, 0x1F)]) =
    [(0x07FF, 0x77)] := by decide

/-- LS18 `STA $4000`. -/
theorem test_LS18 : gives (start 0x3F 0x00 0x00 0xFD 0x8000 0x24 [(0x8000, 0x8D), (0x8001, 0x00), (0x8002, 0x40)])
    0x3F 0x00 0x00 0xFD 0x8003 0x24 4 = true ∧
    traceAfter (start 0x3F 0x00 0x00 0xFD 0x8000 0x24 [(0x8000, 0x8D), (0x8001, 0x00), (0x8002, 0x40)]) = [.wr 0x4000 0x3F] := by decide

/-- LS20 `STA ($40),Y`. -/
theorem test_LS20 : gives (start 0x01 0x00 0xFF 0xFD 0x8000 0x24 [(0x8000, 0x91), (0x8001, 0x40), (0x0040, 0x01), (0x0041, 0x02)])
    0x01 0x00 0xFF 0xFD 0x8002 0x24 6 = true ∧
    ramAfter (start 0x01 0x00 0xFF 0xFD 0x8000 0x24 [(0x8000, 0x91), (0x8001, 0x40), (0x0040, 0x01), (0x0041, 0x02)]) =
    [(0x0040, 0x01), (0x0041, 0x02), (0x0300, 0x01)] := by decide

/-- LS22 `STY $10,X`. -/
theorem test_LS22 : gives (start 0x00 0x01 0x9C 0xFD 0x8000 0x24 [(0x8000, 0x94), (0x8001, 0x10)])
    0x00 0x01 0x9C 0xFD 0x8002 0x24 4 = true ∧
    ramAfter (start 0x00 0x01 0x9C 0xFD 0x8000 0x24 [(0x8000, 0x94), (0x8001, 0x10)]) =
    [(0x0011, 0x9C)] := by decide

/-- LS28 `TSX`. -/
theorem test_LS28 : gives (start 0x00 0x00 0x00 0x80 0x8000 0x24 [(0x8000, 0xBA)])
    0x00 0x80 0x00 0x80 0x8001 0xA4 2 = true := by decide

/-- LS29 `TXS`. -/
theorem test_LS29 : gives (start 0x00 0x00 0x00 0xFD 0x8000 0x24 [(0x8000, 0x9A)])
    0x00 0x00 0x00 0x00 0x8001 0x24 2 = true := by decide

/-- ST2 `PHA`. -/
theorem test_ST2 : gives (start 0x9A 0x00 0x00 0x00 0x8000 0x24 [(0x8000, 0x48)])
    0x9A 0x00 0x00 0xFF 0x8001 0x24 3 = true ∧
    ramAfter (start 0x9A 0x00 0x00 0x00 0x8000 0x24 [(0x8000, 0x48)]) =
    [(0x0100, 0x9A)] := by decide

/-- ST4 `PHP`. -/
theorem test_ST4 : gives (start 0x00 0x00 0x00 0xFD 0x8000 0xE7 [(0x8000, 0x08)])
    0x00 0x00 0x00 0xFC 0x8001 0xE7 3 = true ∧
    ramAfter (start 0x00 0x00 0x00 0xFD 0x8000 0xE7 [(0x8000, 0x08)]) =
    [(0x01FD, 0xF7)] := by decide

/-- ST6 `PLA`. -/
theorem test_ST6 : gives (start 0x11 0x00 0x00 0xFF 0x8000 0x24 [(0x8000, 0x68), (0x0100, 0x00)])
    0x00 0x00 0x00 0x00 0x8001 0x26 4 = true := by decide

/-- ST7 `PLP`. -/
theorem test_ST7 : gives (start 0x00 0x00 0x00 0xFC 0x8000 0x24 [(0x8000, 0x28), (0x01FD, 0xFF)])
    0x00 0x00 0x00 0xFD 0x8001 0xEF 4 = true := by decide

/-- AL3 `ADC #$90`. -/
theorem test_AL3 : gives (start 0x90 0x00 0x00 0xFD 0x8000 0x24 [(0x8000, 0x69), (0x8001, 0x90)])
    0x20 0x00 0x00 0xFD 0x8002 0x65 2 = true := by decide

/-- AL6 `ADC #$7F`. -/
theorem test_AL6 : gives (start 0x00 0x00 0x00 0xFD 0x8000 0x25 [(0x8000, 0x69), (0x8001, 0x7F)])
    0x80 0x00 0x00 0xFD 0x8002 0xE4 2 = true := by decide

/-- AL7 `ADC #$09`. -/
theorem test_AL7 : gives (start 0x09 0x00 0x00 0xFD 0x8000 0x2C [(0x8000, 0x69), (0x8001, 0x09)])
    0x12 0x00 0x00 0xFD 0x8002 0x2C 2 = true := by decide

/-- AL9 `SBC #$01`. -/
theorem test_AL9 : gives (start 0x80 0x00 0x00 0xFD 0x8000 0x25 [(0x8000, 0xE9), (0x8001, 0x01)])
    0x7F 0x00 0x00 0xFD 0x8002 0x65 2 = true := by decide

/-- AL10 `SBC #$FF`. -/
theorem test_AL10 : gives (start 0x7F 0x00 0x00 0xFD 0x8000 0x25 [(0x8000, 0xE9), (0x8001, 0xFF)])
    0x80 0x00 0x00 0xFD 0x8002 0xE4 2 = true := by decide

/-- AL17 `CMP #$11`. -/
theorem test_AL17 : gives (start 0x10 0x00 0x00 0xFD 0x8000 0x24 [(0x8000, 0xC9), (0x8001, 0x11)])
    0x10 0x00 0x00 0xFD 0x8002 0xA4 2 = true := by decide

/-- AL21 `CPY $10`. -/
theorem test_AL21 : gives (start 0x00 0x00 0x40 0xFD 0x8000 0x24 [(0x8000, 0xC4), (0x8001, 0x10), (0x0010, 0x3F)])
    0x00 0x00 0x40 0xFD 0x8002 0x25 3 = true := by decide

/-- AL23 `BIT $10`. -/
theorem test_AL23 : gives (start 0x40 0x00 0x00 0xFD 0x8000 0xE6 [(0x8000, 0x24), (0x8001, 0x10), (0x0010, 0x40)])
    0x40 0x00 0x00 0xFD 0x8002 0x64 3 = true := by decide

/-- AL25 `INC $10`. -/
theorem test_AL25 : gives (start 0x00 0x00 0x00 0xFD 0x8000 0x24 [(0x8000, 0xE6), (0x8001, 0x10), (0x0010, 0x7F)])
    0x00 0x00 0x00 0xFD 0x8002 0xA4 5 = true ∧
    ramAfter (start 0x00 0x00 0x00 0xFD 0x8000 0x24 [(0x8000, 0xE6), (0x8001, 0x10), (0x0010, 0x7F)]) =
    [(0x0010, 0x80)] := by decide

/-- AL26 `DEC $10,X`. -/
theorem test_AL26 : gives (start 0x00 0xF5 0x00 0xFD 0x8000 0x24 [(0x8000, 0xD6), (0x8001, 0x10), (0x0005, 0x00)])
    0x00 0xF5 0x00 0xFD 0x8002 0xA4 6 = true ∧
    ramAfter (start 0x00 0xF5 0x00 0xFD 0x8000 0x24 [(0x8000, 0xD6), (0x8001, 0x10), (0x0005, 0x00)]) =
    [(0x0005, 0xFF)] := by decide

/-- AL31 `DEY`. -/
theorem test_AL31 : gives (start 0x00 0x00 0x01 0xFD 0x8000 0x24 [(0x8000, 0x88)])
    0x00 0x00 0x00 0xFD 0x8001 0x26 2 = true := by decide

/-- SH2 `ASL A`. -/
theorem test_SH2 : gives (start 0x41 0x00 0x00 0xFD 0x8000 0x25 [(0x8000, 0x0A)])
    0x82 0x00 0x00 0xFD 0x8001 0xA4 2 = true := by decide

/-- SH6 `ROL A`. -/
theorem test_SH6 : gives (start 0x80 0x00 0x00 0xFD 0x8000 0x25 [(0x8000, 0x2A)])
    0x01 0x00 0x00 0xFD 0x8001 0x25 2 = true := by decide

/-- SH7 `ROR A`. -/
theorem test_SH7 : gives (start 0x01 0x00 0x00 0xFD 0x8000 0x25 [(0x8000, 0x6A)])
    0x80 0x00 0x00 0xFD 0x8001 0xA5 2 = true := by decide

/-- SH8 `ROR $1234,X`. -/
theorem test_SH8 : gives (start 0x00 0x01 0x00 0xFD 0x8000 0x24 [(0x8000, 0x7E), (0x8001, 0x34), (0x8002, 0x12), (0x1235, 0x02)])
    0x00 0x01 0x00 0xFD 0x8003 0x24 7 = true ∧
    ramAfter (start 0x00 0x01 0x00 0xFD 0x8000 0x24 [(0x8000, 0x7E), (0x8001, 0x34), (0x8002, 0x12), (0x1235, 0x02)]) =
    [(0x0235, 0x01)] := by decide

/-- CF3 `BNE $FE`. -/
theorem test_CF3 : gives (start 0x00 0x00 0x00 0xFD 0x8000 0x24 [(0x8000, 0xD0), (0x8001, 0xFE)])
    0x00 0x00 0x00 0xFD 0x8000 0x24 3 = true := by decide

/-- CF4 `BCC $10 at $80F0`. -/
theorem test_CF4 : gives (start 0x00 0x00 0x00 0xFD 0x80F0 0x24 [(0x80F0, 0x90), (0x80F1, 0x10)])
    0x00 0x00 0x00 0xFD 0x8102 0x24 4 = true := by decide

/-- CF5 `BCS $80 at $8010`. -/
theorem test_CF5 : gives (start 0x00 0x00 0x00 0xFD 0x8010 0x25 [(0x8010, 0xB0), (0x8011, 0x80)])
    0x00 0x00 0x00 0xFD 0x7F92 0x25 4 = true := by decide

/-- CF9 `BVS $05`. -/
theorem test_CF9 : gives (start 0x00 0x00 0x00 0xFD 0x8000 0x64 [(0x8000, 0x70), (0x8001, 0x05)])
    0x00 0x00 0x00 0xFD 0x8007 0x64 3 = true := by decide

/-- CF11 `JMP ($10FF)`. -/
theorem test_CF11 : gives (start 0x00 0x00 0x00 0xFD 0x8000 0x24 [(0x8000, 0x6C), (0x8001, 0xFF), (0x8002, 0x10), (0x1000, 0x12), (0x10FF, 0x34)])
    0x00 0x00 0x00 0xFD 0x1234 0x24 5 = true := by decide

/-- CF13 `JSR $9000`. -/
theorem test_CF13 : gives (start 0x00 0x00 0x00 0xFD 0x8000 0x24 [(0x8000, 0x20), (0x8001, 0x00), (0x8002, 0x90)])
    0x00 0x00 0x00 0xFB 0x9000 0x24 6 = true ∧
    ramAfter (start 0x00 0x00 0x00 0xFD 0x8000 0x24 [(0x8000, 0x20), (0x8001, 0x00), (0x8002, 0x90)]) =
    [(0x01FC, 0x02), (0x01FD, 0x80)] := by decide

/-- CF15 `RTS`. -/
theorem test_CF15 : gives (start 0x00 0x00 0x00 0xFB 0x8000 0x24 [(0x8000, 0x60), (0x01FC, 0xFF), (0x01FD, 0xFF)])
    0x00 0x00 0x00 0xFD 0x0000 0x24 6 = true := by decide

/-- CF16 `BRK`. -/
theorem test_CF16 : gives (start 0x00 0x00 0x00 0xFD 0x8000 0x20 [(0x8000, 0x00), (0xFFFE, 0x00), (0xFFFF, 0x90)])
    0x00 0x00 0x00 0xFA 0x9000 0x24 7 = true ∧
    ramAfter (start 0x00 0x00 0x00 0xFD 0x8000 0x20 [(0x8000, 0x00), (0xFFFE, 0x00), (0xFFFF, 0x90)]) =
    [(0x01FB, 0x30), (0x01FC, 0x02), (0x01FD, 0x80)] := by decide

/-- CF17 `RTI`. -/
theorem test_CF17 : gives (start 0x00 0x00 0x00 0xFA 0x8000 0x24 [(0x8000, 0x40), (0x01FB, 0xFF), (0x01FC, 0x34), (0x01FD, 0x12)])
    0x00 0x00 0x00 0xFD 0x1234 0xEF 6 = true := by decide

/-- CF23 `SED`. -/
theorem test_CF23 : gives (start 0x00 0x00 0x00 0xFD 0x8000 0x24 [(0x8000, 0xF8)])
    0x00 0x00 0x00 0xFD 0x8001 0x2C 2 = true := by decide

/-- UN1 `SLO $10`. -/
theorem test_UN1 : gives (start 0x01 0x00 0x00 0xFD 0x8000 0x24 [(0x8000, 0x07), (0x8001, 0x10), (0x0010, 0x80)])
    0x01 0x00 0x00 0xFD 0x8002 0x25 5 = true ∧
    ramAfter (start 0x01 0x00 0x00 0xFD 0x8000 0x24 [(0x8000, 0x07), (0x8001, 0x10), (0x0010, 0x80)]) =
    [] := by decide

/-- UN2 `RLA $10`. -/
theorem test_UN2 : gives (start 0xFF 0x00 0x00 0xFD 0x8000 0x25 [(0x8000, 0x27), (0x8001, 0x10), (0x0010, 0x80)])
    0x01 0x00 0x00 0xFD 0x8002 0x25 5 = true ∧
    ramAfter (start 0xFF 0x00 0x00 0xFD 0x8000 0x25 [(0x8000, 0x27), (0x8001, 0x10), (0x0010, 0x80)]) =
    [(0x0010, 0x01)] := by decide

/-- UN4 `RRA $10`. -/
theorem test_UN4 : gives (start 0x10 0x00 0x00 0xFD 0x8000 0x24 [(0x8000, 0x67), (0x8001, 0x10), (0x0010, 0x03)])
    0x12 0x00 0x00 0xFD 0x8002 0x24 5 = true ∧
    ramAfter (start 0x10 0x00 0x00 0xFD 0x8000 0x24 [(0x8000, 0x67), (0x8001, 0x10), (0x0010, 0x03)]) =
    [(0x0010, 0x01)] := by decide

/-- UN7 `LAX ($40),Y`. -/
theorem test_UN7 : gives (start 0x00 0x00 0xFF 0xFD 0x8000 0x24 [(0x8000, 0xB3), (0x8001, 0x40), (0x0040, 0x01), (0x0041, 0x02), (0x0300, 0x00)])
    0x00 0x00 0xFF 0xFD 0x8002 0x26 6 = true := by decide

/-- UN9 `DCP ($40),Y`. -/
theorem test_UN9 : gives (start 0x00 0x00 0x01 0xFD 0x8000 0x24 [(0x8000, 0xD3), (0x8001, 0x40), (0x0040, 0x00), (0x0041, 0x03), (0x0301, 0x00)])
    0x00 0x00 0x01 0xFD 0x8002 0x24 8 = true ∧
    ramAfter (start 0x00 0x00 0x01 0xFD 0x8000 0x24 [(0x8000, 0xD3), (0x8001, 0x40), (0x0040, 0x00), (0x0041, 0x03), (0x0301, 0x00)]) =
    [(0x0041, 0x03), (0x0301, 0xFF)] := by decide

/-- UN10 `ISB $10`. -/
theorem test_UN10 : gives (start 0x10 0x00 0x00 0xFD 0x8000 0x25 [(0x8000, 0xE7), (0x8001, 0x10), (0x0010, 0x04)])
    0x0B 0x00 0x00 0xFD 0x8002 0x25 5 = true ∧
    ramAfter (start 0x10 0x00 0x00 0xFD 0x8000 0x25 [(0x8000, 0xE7), (0x8001, 0x10), (0x0010, 0x04)]) =
    [(0x0010, 0x05)] := by decide

/-- UN11 `ANC #$80`. -/
theorem test_UN11 : gives (start 0xFF 0x00 0x00 0xFD 0x8000 0x24 [(0x8000, 0x0B), (0x8001, 0x80)])
    0x80 0x00 0x00 0xFD 0x8002 0xA5 2 = true := by decide

/-- UN14 `ARR #$FF`. -/
theorem test_UN14 : gives (start 0x80 0x00 0x00 0xFD 0x8000 0x25 [(0x8000, 0x6B), (0x8001, 0xFF)])
    0xC0 0x00 0x00 0xFD 0x8002 0xE5 2 = true := by decide

/-- UN15 `XAA #$FF`. -/
theorem test_UN15 : gives (start 0x00 0x0F 0x00 0xFD 0x8000 0x24 [(0x8000, 0x8B), (0x8001, 0xFF)])
    0x0E 0x0F 0x00 0xFD 0x8002 0x24 2 = true := by decide

/-- UN16 `LAX #$FF`. -/
theorem test_UN16 : gives (start 0x00 0x00 0x00 0xFD 0x8000 0x24 [(0x8000, 0xAB), (0x8001, 0xFF)])
    0xEE 0xEE 0x00 0xFD 0x8002 0xA4 2 = true := by decide

/-- UN18 `AXS #$10`. -/
theorem test_UN18 : gives (start 0x0F 0xFF 0x00 0xFD 0x8000 0x24 [(0x8000, 0xCB), (0x8001, 0x10)])
    0x0F 0xFF 0x00 0xFD 0x8002 0xA4 2 = true := by decide

/-- UN20 `LAS $0300,Y`. -/
theorem test_UN20 : gives (start 0x00 0x00 0x01 0xF0 0x8000 0x24 [(0x8000, 0xBB), (0x8001, 0x00), (0x8002, 0x03), (0x0301, 0x3C)])
    0x30 0x30 0x01 0x30 0x8003 0x24 4 = true := by decide

/-- UN21 `TAS $1200,Y`. -/
theorem test_UN21 : gives (start 0xFF 0x0F 0x01 0xFD 0x8000 0x24 [(0x8000, 0x9B), (0x8001, 0x00), (0x8002, 0x12)])
    0xFF 0x0F 0x01 0x0F 0x8003 0x24 5 = true ∧
    ramAfter (start 0xFF 0x0F 0x01 0xFD 0x8000 0x24 [(0x8000, 0x9B), (0x8001, 0x00), (0x8002, 0x12)]) =
    [(0x0201, 0x03)] := by decide

/-- UN24 `AHX ($40),Y`. -/
theorem test_UN24 : gives (start 0xFF 0xFF 0x01 0xFD 0x8000 0x24 [(0x8000, 0x93), (0x8001, 0x40), (0x0040, 0x00), (0x0041, 0x03)])
    0xFF 0xFF 0x01 0xFD 0x8002 0x24 6 = true ∧
    ramAfter (start 0xFF 0xFF 0x01 0xFD 0x8000 0x24 [(0x8000, 0x93), (0x8001, 0x40), (0x0040, 0x00), (0x0041, 0x03)]) =
    [(0x0041, 0x03), (0x0301, 0x04)] := by decide

/-- UN25 `SHX $05FF,Y`. -/
theorem test_UN25 : gives (start 0x00 0x03 0x01 0xFD 0x8000 0x24 [(0x8000, 0x9E), (0x8001, 0xFF), (0x8002, 0x05)])
    0x00 0x03 0x01 0xFD 0x8003 0x24 5 = true ∧
    ramAfter (start 0x00 0x03 0x01 0xFD 0x8000 0x24 [(0x8000, 0x9E), (0x8001, 0xFF), (0x8002, 0x05)]) =
    [(0x0600, 0x02)] := by decide

/-- UN26 `SHX $05FF,Y`. -/
theorem test_UN26 : gives (start 0x00 0x03 0x01 0xFD 0x8000 0x24 [(0x8000, 0x9E), (0x8001, 0xFF), (0x8002, 0x05)] true)
    0x00 0x03 0x01 0xFD 0x8003 0x24 5 = true ∧
    ramAfter (start 0x00 0x03 0x01 0xFD 0x8000 0x24 [(0x8000, 0x9E), (0x8001, 0xFF), (0x8002, 0x05)] true) =
    [(0x0200, 0x02)] := by decide

/-- UN29 `NOP $10FF,X ($1C)`. -/
theorem test_UN29 : gives (start 0x00 0x01 0x00 0xFD 0x8000 0x24 [(0x8000, 0x1C), (0x8001, 0xFF), (0x8002, 0x10)])
    0x00 0x01 0x00 0xFD 0x8003 0x24 5 = true := by decide

/-- UN31 `JAM ($02)`. -/
theorem test_UN31 : gives (start 0x00 0x00 0x00 0xFD 0x8000 0x24 [(0x8000, 0x02)])
    0x00 0x00 0x00 0xFD 0x8000 0x24 11 = true := by decide

/-! ### Host calls and the ring, 95_test_vectors.md section 2.7 and 2.8 -/

/-- A state with a song file that halts its song: INIT and PLAY are `RTS`. -/
def player : State := start 0x00 0x00 0x00 0xFD 0x0000 0x24 [(0x8000, 0x60), (0x9000, 0x60)]

/-- A state whose INIT is a jam and whose PLAY is a loop in place. -/
def stuck : State := start 0x00 0x00 0x00 0xFD 0x0000 0x24 [(0x8000, 0x02), (0x9000, 0x4C), (0x9001, 0x00), (0x9002, 0x90)]

theorem test_mixPair : [((0x8000 : Sample), (0x8000 : Sample)), (0x7FFF, 0x7FFF), (0xFFFF, 0x0000), (0xFFFD, 0x0000)].map
    (fun c => (mixPair c.1 c.2).toInt) = [-32768, 32767, -1, -2] := by decide
theorem test_scaleSample : [(0x8000 : Sample), 0xFFFF, 0x0000, 0x03FF, 0x0400, 0x7FFF].map
    (fun v => (scaleSample 6 v).toNat) = [0, 31, 32, 32, 33, 63] := by decide
theorem test_convertSample : [(0x00 : Byte), 0x7F, 0x80, 0xFF].map (fun u => (convertSample u).toInt) =
    [-32768, -256, 0, 32512] := by decide
theorem test_convertInPlace : convertInPlace .little 3 [0x00, 0x80, 0xFF, 0x11, 0x22, 0x33] =
    [0x00, 0x80, 0x00, 0x00, 0x00, 0x7F] := by decide

/-! ### Witnesses: a state and operands that meet the hypotheses of each statement -/

theorem witness_DecodedBytesAreTheEncoding : decode [0xA9, 0x42, 0x85] = .ok (.ldaImm 0x42, [0x85]) := by rfl

theorem witness_StepRunsTheInstructionAtPC :
    player.jammed = false ∧ (∀ k, k < (encode Instr.brk).length → peek player (player.pc + BitVec.ofNat 16 k) = (encode Instr.brk)[k]?) ∧
    (∀ k, k < (encode (.oraImm 0x60)).length →
      peek (start 0 0 0 0 0xFFFF 0x24 [(0xFFFF, 0x09), (0x0000, 0x60)]) (0xFFFF + BitVec.ofNat 16 k) =
        (encode (.oraImm 0x60))[k]?) := by decide

theorem witness_JammedCpuStandsStill : (player.setJammed true).jammed = true := by decide

theorem witness_RamReadsTheLastWrite : (0x0000 : Addr) < 0x2000 ∧ (0x07FF : Addr) < 0x2000 ∧ (0x1FFF : Addr) < 0x2000 := by decide

theorem witness_AccessesOutsideRamAndWindow :
    ((0x2000 : Addr) ≤ 0x2000 ∧ (0x2000 : Addr) ≤ 0x3FFF) ∧ ((0x2000 : Addr) ≤ 0x3FFF ∧ (0x3FFF : Addr) ≤ 0x3FFF) ∧
    (0x4000 ≤ (0x4018 : Addr) ∧ ¬(player.params.regLo ≤ (0x4018 : Addr) ∧ (0x4018 : Addr) ≤ player.params.regHi)) ∧
    (0x4000 ≤ (0x6000 : Addr) ∧ ¬(player.params.regLo ≤ (0x6000 : Addr) ∧ (0x6000 : Addr) ≤ player.params.regHi)) ∧
    (0x4000 ≤ (0x7FFF : Addr) ∧ ¬(player.params.regLo ≤ (0x7FFF : Addr) ∧ (0x7FFF : Addr) ≤ player.params.regHi)) ∧
    (0x4000 ≤ (0x8000 : Addr) ∧ ¬(player.params.regLo ≤ (0x8000 : Addr) ∧ (0x8000 : Addr) ≤ player.params.regHi)) ∧
    (0x4000 ≤ (0xFFFF : Addr) ∧ ¬(player.params.regLo ≤ (0xFFFF : Addr) ∧ (0xFFFF : Addr) ≤ player.params.regHi)) := by decide

theorem witness_RegisterWindowAccessesAreEvents :
    (0x4000 ≤ (0x4000 : Addr) ∧ player.params.regLo ≤ (0x4000 : Addr) ∧ (0x4000 : Addr) ≤ player.params.regHi) ∧
    (0x4000 ≤ (0x4017 : Addr) ∧ player.params.regLo ≤ (0x4017 : Addr) ∧ (0x4017 : Addr) ≤ player.params.regHi) := by decide

theorem witness_OperandIsReadOnce : peek player (eaOf (.abs 0x8000) player) = some 0x60 := by decide

theorem witness_LoadsPutTheByteInTheRegister :
    (Instr.ldaAbsx 0x80F0, ReadOperand.mem (.absx 0x80F0), 4) ∈ ldaForms 0 0 0x80F0 ∧
    (Instr.ldxImm 0xFF, ReadOperand.imm 0xFF, 2) ∈ ldxForms 0xFF 0 0 ∧
    (Instr.ldyZp 0x10, ReadOperand.mem (.zp 0x10), 3) ∈ ldyForms 0 0x10 0 ∧
    (Instr.laxIzy 0xFF, ReadOperand.mem (.izy 0xFF), 5) ∈ laxForms 0xFF 0 := by decide

theorem witness_StoresWriteOneByte :
    (Instr.staIzy 0xFF, MemOperand.izy 0xFF, 6) ∈ staForms 0xFF 0 ∧ (Instr.stxZpy 0xFF, MemOperand.zpy 0xFF, 4) ∈ stxForms 0xFF 0 ∧
    (Instr.styAbs 0x1FFF, MemOperand.abs 0x1FFF, 4) ∈ styForms 0 0x1FFF ∧
    (Instr.saxAbs 0x4000, MemOperand.abs 0x4000, 4) ∈ saxForms 0 0x4000 := by decide

theorem witness_AddWithCarryAddsBinary : (Instr.adcImm 0xFF, ReadOperand.imm 0xFF, 2) ∈ adcForms 0xFF 0 0 := by decide

theorem witness_SubtractWithBorrowSubtractsBinary : (Instr.sbcImmEB 0x01, ReadOperand.imm 0x01, 2) ∈ sbcForms 0x01 0 0 := by decide

theorem witness_LogicCombinesBitwise : (Instr.andImm 0x0F, ReadOperand.imm 0x0F, 2) ∈ andForms 0x0F 0 0 ∧
    (Instr.oraImm 0x80, ReadOperand.imm 0x80, 2) ∈ oraForms 0x80 0 0 ∧
    (Instr.eorImm 0xFF, ReadOperand.imm 0xFF, 2) ∈ eorForms 0xFF 0 0 := by decide

theorem witness_ComparesSetFlagsOnly : (Instr.cmpImm 0x10, ReadOperand.imm 0x10, 2) ∈ cmpForms 0x10 0 0 ∧
    (Instr.cpxImm 0x10, ReadOperand.imm 0x10, 2) ∈ cpxForms 0x10 0 0 ∧
    (Instr.cpyZp 0x10, ReadOperand.mem (.zp 0x10), 3) ∈ cpyForms 0 0x10 0 ∧
    (Instr.bitAbs 0x4015, ReadOperand.mem (.abs 0x4015), 4) ∈ bitForms 0 0x4015 := by decide

theorem witness_IncrementAndDecrementMemory : (Instr.incAbs 0x4000, MemOperand.abs 0x4000, 6) ∈ incForms 0 0x4000 ∧
    (Instr.decZpx 0xFF, MemOperand.zpx 0xFF, 6) ∈ decForms 0xFF 0 := by decide

theorem witness_ShiftsMoveOneBit : (Instr.rorAcc, rorOut player.a player.flags.c) ∈ accForms player ∧
    (Instr.aslZp 0x10, MemOperand.zp 0x10, 5) ∈ aslForms 0x10 0 ∧
    (Instr.lsrZpx 0xFF, MemOperand.zpx 0xFF, 6) ∈ lsrForms 0xFF 0 ∧
    (Instr.rolAbs 0x1FFF, MemOperand.abs 0x1FFF, 6) ∈ rolForms 0 0x1FFF ∧
    (Instr.rorAbsx 0x1234, MemOperand.absx 0x1234, 7) ∈ rorForms 0 0x1234 := by decide

theorem witness_BranchesTakeTheirTarget : (Instr.bne 0xFE, true) ∈ branchForms 0xFE player.flags ∧
    (Instr.beq 0x80, false) ∈ branchForms 0x80 player.flags := by decide

theorem witness_FlagInstructionsWriteOneFlag : (Instr.sed, { player.flags with d := true }) ∈ flagForms player.flags := by decide

theorem witness_NoOperationsOnlyAdvance : Instr.nopImplEA ∈ nopOneByte ∧
    (Instr.nopAbs 0x4015, ReadOperand.mem (.abs 0x4015), 4) ∈ nopForms 0 0 0x4015 ∧
    (Instr.nopAbsx1C 0x10FF, ReadOperand.mem (.absx 0x10FF), 4) ∈ nopForms 0 0 0x10FF := by decide

theorem witness_ShiftAndCombineWithA : (Instr.sloZp 0x10, MemOperand.zp 0x10, 5) ∈ sloForms 0x10 0 ∧
    (Instr.rlaAbsy 0x0300, MemOperand.absy 0x0300, 7) ∈ rlaForms 0 0x0300 ∧
    (Instr.sreIzx 0xFF, MemOperand.izx 0xFF, 8) ∈ sreForms 0xFF 0 := by decide

theorem witness_RotateStepAndArithmetic : (Instr.rraZp 0x10, MemOperand.zp 0x10, 5) ∈ rraForms 0x10 0 ∧
    (Instr.dcpIzy 0x40, MemOperand.izy 0x40, 8) ∈ dcpForms 0x40 0 ∧
    (Instr.isbAbsx 0x1FFF, MemOperand.absx 0x1FFF, 7) ∈ isbForms 0 0x1FFF := by decide

theorem witness_ImmediateCombinations : Instr.ancImm2B 0x80 ∈ [Instr.ancImm0B 0x80, Instr.ancImm2B 0x80] := by decide

/-- A page cross with the glitch, and the same store without it. -/
theorem witness_HighByteStoresGoWhereTheGlitchSays :
    (Instr.shxAbsy 0x05FF, MemOperand.absy 0x05FF, (0x05FF : Addr), (0x03 : Byte), (0xFD : Byte), 5) ∈
      shForms 0 0x05FF (start 0 3 1 0xFD 0x8000 0x24 [] true) ∧
    (eaOf (.absy 0x05FF) (start 0 3 1 0xFD 0x8000 0x24 [] true)) = 0x0600 ∧
    (Instr.shxAbsy 0x05FF, MemOperand.absy 0x05FF, (0x05FF : Addr), (0x03 : Byte), (0xFD : Byte), 5) ∈
      shForms 0 0x05FF (start 0 3 1 0xFD 0x8000 0x24 []) := by decide

theorem witness_JamHaltsInPlace : Instr.jam02 ∈ jamInstrs ∧ Instr.jamF2 ∈ jamInstrs := by decide

/-- A state inside a push and inside a pull, both about to publish. -/
def ringState : State :=
  { player with
    ring := { slots := [(0, 5), (1, 6)], w := 1, r := 0, last := 32, rSeen := 0, wSeen := 1, rDraws := 0, wDraws := 0 }
    producer := .publishing 6 [7] 0
    consumer := .publishing 5 }

theorem player_inv : player.Inv := by
  refine ⟨by decide, by decide, by decide, by decide, by decide, by decide, by decide, by decide, by decide, ?_, ?_⟩
  · exact True.intro
  · exact True.intro

theorem witness_StepKeepsTheInvariant : player.Inv ∧ step player = .next (stepState player) :=
  ⟨player_inv, rfl⟩

theorem witness_EveryMoveKeepsTheInvariant :
    player.Inv ∧ (∀ m ∈ [Move.reset, .step, .run 10, .nmi, .irq, .initSong (params false).file 1,
      .runInit (params false).file 2, .runPlayFrame, .frameDueSamples,
      .renderFrame [] 0, .pushToRing [] 0 1, .pullSample, .beginPush [] 0 1, .producerMove, .consumerMove], m.allowed player) := by
  refine ⟨player_inv, ?_⟩
  simp only [List.forall_mem_cons, Move.allowed]
  exact ⟨rfl, rfl, rfl, rfl, rfl, ⟨rfl, by decide⟩, ⟨rfl, by decide⟩, rfl, rfl, rfl, rfl, rfl, rfl, trivial, trivial, by simp⟩

theorem witness_InterruptEntry : (player.setJammed true).jammed = true ∧ player.jammed = false ∧ player.flags.i = true ∧ (setI false player).jammed = false ∧
    (setI false player).flags.i = false := by decide

theorem witness_ReturnUndoesEntry : player.jammed = false ∧ StatusOk player.p := by decide

theorem witness_InitSongSetsUpTheLaunch :
    (0 < 1 ∨ player.params.file.totalSongs < 0) ∧ (3 < 1 ∨ player.params.file.totalSongs < 3) ∧
    (1 ≤ 2 ∧ 2 ≤ player.params.file.totalSongs ∧ player.params.trapAddr ≤ 0xFC) := by decide

theorem witness_ReturnLandsInTheTrap :
    let s := start 0 0 0 0xFB 0x8000 0x24
      [(0x00F0, 0xEA), (0x00F1, 0x4C), (0x00F2, 0xF0), (0x01FC, 0xF0)]
    s.jammed = false ∧ TrapIntact s ∧ s.sp = 0xFB ∧ Memory.read s.ram 0x1FC = s.params.trapAddr ∧
      Memory.read s.ram 0x1FD = 0x00 := by
  refine ⟨by decide, ⟨by decide, by decide, by decide, by decide, by decide⟩, by decide, by decide, by decide⟩

/-- A run that ends with the CPU not jammed, and one that ends jammed. -/
theorem witness_RunStopsWithinOneInstruction :
    1 ≤ 3 ∧ (run 3 player).2.jammed = false ∧
    (run 3 (start 0 0 0 0xFD 0x8000 0x24 [(0x8000, 0x02)])).2.jammed = true := by decide

/-- The three ways a launch ends, and a budget of 0. -/
theorem witness_LaunchEndsInOneOfThreeWays :
    (runInit 1 player).1 = .ok (.trapped 9) ∧ (runInit 1 stuck).1 = .error .cpuJammed ∧
    (runPlayFrame (initSong 2 stuck).2).1 = .ok (.budgetExhausted 42) := by
  refine ⟨by rfl, by rfl, by rfl⟩

theorem witness_PlayFrameIsRefusedOrLaunched :
    player.session.loaded = false ∧
    ((loadSong 1 player).setJammed true).session.loaded = true ∧ ((loadSong 1 player).setJammed true).jammed = true ∧
    (loadSong 1 player).session.loaded = true ∧ (loadSong 1 player).jammed = false ∧
    (loadSong 1 player).params.trapAddr ≤ 0xFC := by decide

/-- R530, R560: `init_song` brings its song file, from the state after reset on; a song the file does not have changes nothing. -/
theorem test_initSongOf : (initSongOf (params false).file 2 State.reset).1 = .ok () ∧
    (initSongOf (params false).file 2 State.reset).2.pc = 0x8000 ∧
    (read8 0x8000 player).1 = 0x60 ∧
    (read8 0x8000 (initSongOf { (params false).file with image := [(0, 0x77)] } 1 player).2).1 = 0x77 ∧
    initSongOf (params false).file 3 State.reset = (.error .invalidSongNumber, State.reset) :=
  ⟨rfl, rfl, rfl, rfl, rfl⟩

theorem witness_DueSamplesAddUpExactly : player.acc.toNat < 65536 ∧ player.params.sampleRate ≤ 65535 ∧
    (0x0000FFFF : BitVec 32).toNat < 65536 := by decide

theorem witness_InPlaceConversionLosesNoSample : 2 * 3 ≤ [(0x00 : Byte), 0x80, 0xFF, 0x11, 0x22, 0x33].length := by decide

theorem witness_RenderFrameAdvancesEitherWay :
    734 < (frameDueSamples player).1 ∧ (frameDueSamples player).1 ≤ 735 ∧
    2 * 735 = (List.replicate 1470 (0x00 : Byte)).length := by
  refine ⟨by decide, by decide, List.length_replicate.symm⟩

theorem witness_PushedElementsAreMixedAndScaled :
    1 ≤ ringState.params.ringBits ∧ ringState.params.ringBits ≤ 16 ∧
    2 * 2 ≤ [(0x8000 : Sample), 0xFFFF, 0x0000, 0x7F00].length ∧ (3 : Nat) ≠ 1 ∧ (3 : Nat) ≠ 2 ∧
    (pushElements { ringState.params with ringBits := 6 } [0x8000, 0xFFFF, 0x0000, 0x7F00] 4 1).map BitVec.toNat = [0, 31, 32, 63] ∧
    (pushElements { ringState.params with ringBits := 6 } [0x8000, 0xFFFF, 0x0000, 0x7F00] 2 2).map BitVec.toNat = [15, 47] := by
  decide

theorem witness_RingIsABoundedQueue : ringState.Inv ∧ ringState.producer = .publishing 6 [7] 0 ∧
    ringState.consumer = .publishing 5 ∧ player.Inv ∧ player.producer = .idle ∧ player.consumer = .idle ∧
    (∀ e rest n, player.producer ≠ .publishing e rest n) ∧ (∀ e, player.consumer ≠ .publishing e) := by
  refine ⟨⟨by decide, by decide, by decide, by decide, by decide, by decide, by decide, by decide, by decide, ?_, ?_⟩, rfl, rfl,
    player_inv, rfl, rfl, ?_, ?_⟩
  · refine ⟨by decide, fun e he => ?_, by decide, by rfl⟩
    rw [List.mem_singleton.1 he]
    decide
  · exact ⟨by decide, by rfl⟩
  · intro _ _ _ h
    exact Producer.noConfusion h
  · intro _ h
    exact Consumer.noConfusion h

theorem witness_PushStoresThePrefixThatFits : player.Inv ∧ ∀ n : Nat, (fun _ => 0 : Nat → Nat) n = 0 :=
  ⟨player_inv, fun _ => rfl⟩

theorem witness_DecimalFlagChangesNothing : Instr.adcImm 0x09 ∉ [Instr.php, .brk, .plp, .rti, .cld, .sed] ∧
    exec .inx player = .next (((player.setX 0x01).setPC 0x0001).tick 2) := ⟨by decide, by rfl⟩

theorem witness_CyclesAreNotRead : exec .inx player = .next (((player.setX 0x01).setPC 0x0001).tick 2) := by rfl

theorem witness_ConsumerAndCpuDoNotMeet : step player = .next (stepState player) := by rfl

end Sys2Proof.Machine.Test
end

/-! ## 00_scope.md: the invariant of the block along a step -/

namespace Sys2Proof.Machine

/-- Whatever state a step answers differs from the one before it only in what the CPU owns: `step_completes`, read off the answer. -/
theorem effect_of_step {s t : State} (h : step s = .next t) : CpuEffect s t := by
  obtain ⟨u, hu, he⟩ := step_completes s
  have htu : t = u := Host.Outcome.next.inj (h.symm.trans hu)
  rw [htu]
  exact he

/-- Settles O41: a step does to the block only what the CPU may do (the frame over all 256 instructions), and that keeps P's fixed
bits and the form of RAM and leaves the session, the accumulator, the ring and the parameters as they are. -/
theorem stepKeepsTheInvariant : Obligations.StepKeepsTheInvariant := by
  intro s t hs hstep
  exact (effect_of_step hstep).inv hs

end Sys2Proof.Machine

/-! ## 20_memory.md: the regions of the bus -/

namespace Sys2Proof.Machine

/-- R72, R77: the PPU range is unmapped. -/
theorem region_ppu {p : Params} {a : Addr} (h1 : 0x2000 ≤ a) (h2 : a ≤ 0x3FFF) : region p a = .unmapped := by
  unfold region
  rw [if_neg (BitVec.not_lt.2 h1), if_pos h2]

/-- R73: the register window, which is looked at before the image. -/
theorem region_registers {p : Params} {a : Addr} (h : 0x4000 ≤ a) (hw : p.regLo ≤ a ∧ a ≤ p.regHi) :
    region p a = .registers := by
  unfold region
  rw [if_neg (by bv_omega), if_neg (by bv_omega), if_pos hw]

/-- R75: above the PPU range and outside the register window, an address of the image is the image's byte. -/
theorem region_image {p : Params} {a : Addr} (h : 0x4000 ≤ a) (hw : ¬(p.regLo ≤ a ∧ a ≤ p.regHi))
    (hi : p.file.loadAddr.toNat ≤ a.toNat ∧ a.toNat < p.file.loadAddr.toNat + p.file.imageLen) :
    region p a = .rom (a.toNat - p.file.loadAddr.toNat) := by
  obtain ⟨hlo, hhi⟩ := hi
  unfold region
  rw [if_neg (by bv_omega), if_neg (by bv_omega), if_neg hw, if_pos ⟨BitVec.le_def.2 hlo, by omega⟩]

/-- R74, R76, R77: what is left there is $6000 to $7FFF below the image, or unmapped. -/
theorem region_noImage {p : Params} {a : Addr} (h : 0x4000 ≤ a) (hw : ¬(p.regLo ≤ a ∧ a ≤ p.regHi))
    (hi : ¬(p.file.loadAddr.toNat ≤ a.toNat ∧ a.toNat < p.file.loadAddr.toNat + p.file.imageLen)) :
    region p a = .sram ∨ region p a = .unmapped := by
  unfold region
  rw [if_neg (by bv_omega), if_neg (by bv_omega), if_neg hw,
    if_neg (fun hk => hi ⟨BitVec.le_def.1 hk.1, by have := BitVec.le_def.1 hk.1; omega⟩)]
  split_ifs
  · exact .inr rfl
  · exact .inl rfl
  · exact .inr rfl

/-- R71: a write to RAM stores at the index of its address and does nothing else. -/
theorem write8_ram {a : Addr} (h : a < 0x2000) (v : Byte) (s : State) :
    write8 a v s = s.setRam (Memory.write s.ram (a.toNat % 2048) v) := by
  rw [write8, region_ram h, ramIndex_eq]

/-- R71: a read of RAM gives the byte at the index of its address and changes nothing. -/
theorem read8_below {a : Addr} (h : a < 0x2000) (s : State) : read8 a s = (Memory.read s.ram (a.toNat % 2048), s) := by
  rw [read8_ram (region_ram h), ramIndex_eq]

/-- R74, R76, R77: a read of $6000 to $7FFF below the image, or of unmapped space, gives 0 and changes nothing. -/
theorem read8_zero {a : Addr} {s : State} (h : region s.params a = .sram ∨ region s.params a = .unmapped) :
    read8 a s = (0x00, s) := by
  rcases h with h | h <;> rw [read8, h]

/-- R75: a read of the image gives its byte and changes nothing. -/
theorem read8_rom {a : Addr} {s : State} {off : Nat} (h : region s.params a = .rom off) :
    read8 a s = (Memory.read s.params.file.image off, s) := by
  rw [read8, h]

/-- R72 to R77: a write at $2000 or above is dropped, but for the register window. -/
theorem write8_dropped {a : Addr} {s : State} (hr : ¬a < 0x2000) (hw : region s.params a ≠ .registers) (v : Byte) :
    write8 a v s = s := by
  rw [write8_eq, writeEvents, if_neg hr, if_neg hw, List.append_nil]

/-- Settles O7: both addresses are RAM, so the read after the write is `Memory.read_write` at the two indices. -/
theorem ramReadsTheLastWrite : Obligations.RamReadsTheLastWrite := by
  intro s a b v ha hb
  rw [write8_ram ha, read8_below hb, read8_below hb, State.setRam_ram, Memory.read_write]
  exact ⟨rfl, rfl, rfl⟩

/-- Settles O8, region by region: the PPU range, then the image and what is neither window nor image. -/
theorem accessesOutsideRamAndWindow : Obligations.AccessesOutsideRamAndWindow := by
  intro s a v
  refine ⟨fun ⟨h1, h2⟩ => ?_, fun ⟨h, hw⟩ => ?_⟩
  · have hr := region_ppu (p := s.params) h1 h2
    exact ⟨read8_zero (.inr hr), write8_dropped (BitVec.not_lt.2 h1) (by simp [hr]) v⟩
  · have hram : ¬a < 0x2000 := by bv_omega
    by_cases hi : s.params.file.loadAddr.toNat ≤ a.toNat ∧ a.toNat < s.params.file.loadAddr.toNat + s.params.file.imageLen
    · have hr := region_image h hw hi
      rw [if_pos hi]
      exact ⟨write8_dropped hram (by simp [hr]) v, read8_rom hr⟩
    · have hr := region_noImage h hw hi
      rw [if_neg hi]
      exact ⟨write8_dropped hram (by rcases hr with hr | hr <;> simp [hr]) v, read8_zero hr⟩

/-- Settles O9: in the window the events of `read8_eq` and `write8_eq` are the one access, and RAM is not written. -/
theorem registerWindowAccessesAreEvents : Obligations.RegisterWindowAccessesAreEvents := by
  intro s a v h hlo hhi
  have hr : region s.params a = .registers := region_registers h ⟨hlo, hhi⟩
  have hram : ¬a < 0x2000 := by bv_omega
  refine ⟨?_, busByte a s, ?_⟩
  · rw [write8_eq, if_neg hram, writeEvents, if_pos hr]
  · rw [read8_eq, readEvents, if_pos hr]
    rfl

end Sys2Proof.Machine

/-! ## 20_memory.md: what the CPU does not see -/

namespace Sys2Proof.Machine

/-- The state with `k` more cycles counted and another ring and pull in progress: what no instruction reads (R93, R550).
With the ring and the pull as they are it is `State.tick`. -/
def State.unseen (k : Nat) (g : Ring) (c : Consumer) (s : State) : State :=
  { s with cycles := s.cycles + k, ring := g, consumer := c }

section

variable (k : Nat) (g : Ring) (c : Consumer)

theorem tick_unseen (n : Nat) (s : State) : (s.unseen k g c).tick n = (s.tick n).unseen k g c := by
  simp only [State.unseen, State.tick, Nat.add_right_comm]

theorem busByte_unseen (a : Addr) (s : State) : busByte a (s.unseen k g c) = busByte a s :=
  busByte_congr (s := s) (t := s.unseen k g c) rfl rfl rfl a

theorem read8_unseen (a : Addr) (s : State) :
    read8 a (s.unseen k g c) = ((read8 a s).1, (read8 a s).2.unseen k g c) := by
  rw [read8_eq, read8_eq a s, busByte_unseen]
  rfl

theorem write8_unseen (a : Addr) (v : Byte) (s : State) :
    write8 a v (s.unseen k g c) = (write8 a v s).unseen k g c := by
  rw [write8_eq, write8_eq a v s]
  rfl

theorem read16_unseen (a : Addr) (s : State) :
    read16 a (s.unseen k g c) = ((read16 a s).1, (read16 a s).2.unseen k g c) := by
  simp only [read16, read8_unseen]

theorem push8_unseen (v : Byte) (s : State) : push8 v (s.unseen k g c) = (push8 v s).unseen k g c := by
  rw [push8_eq, push8_eq v s]
  rfl

theorem push16_unseen (w : Addr) (s : State) : push16 w (s.unseen k g c) = (push16 w s).unseen k g c := by
  rw [push16_eq, push16_eq w s]
  rfl

theorem pull8_unseen (s : State) : pull8 (s.unseen k g c) = ((pull8 s).1, (pull8 s).2.unseen k g c) := by
  rw [pull8_eq, pull8_eq s]
  rfl

theorem pull16_unseen (s : State) : pull16 (s.unseen k g c) = ((pull16 s).1, (pull16 s).2.unseen k g c) := by
  rw [pull16_eq, pull16_eq s]
  rfl

theorem fetch_unseen (s : State) : fetch (s.unseen k g c) = ((fetch s).1, (fetch s).2.unseen k g c) := by
  have hpc : (s.unseen k g c).pc = s.pc := rfl
  simp only [fetch, hpc, read8_unseen]
  split <;> rfl

theorem resolve_fst_unseen (m : MemOperand) (s : State) : (resolve m (s.unseen k g c)).1 = (resolve m s).1 :=
  resolve_congr m rfl rfl rfl

theorem advance_unseen (n : Nat) (s : State) : (s.unseen k g c).advance n = (s.advance n).unseen k g c := rfl

theorem eaOf_unseen (m : MemOperand) (s : State) : eaOf m (s.unseen k g c) = eaOf m s := by
  rw [eaOf, eaOf, resolve_fst_unseen]

theorem byteOf_unseen (o : ReadOperand) (s : State) : byteOf o (s.unseen k g c) = byteOf o s := by
  cases o with
  | imm v => rfl
  | mem m => rw [byteOf_mem, byteOf_mem, eaOf_unseen, busByte_unseen]

theorem crossPenalty_unseen (o : ReadOperand) (s : State) : crossPenalty o (s.unseen k g c) = crossPenalty o s := by
  cases o with
  | imm v => rfl
  | mem m => rw [crossPenalty_eq, crossPenalty_eq, resolve_fst_unseen]

theorem operandEvents_unseen (o : ReadOperand) (s : State) :
    operandEvents o (s.unseen k g c) = operandEvents o s := by
  cases o with
  | imm v => rfl
  | mem m =>
    simp only [operandEvents, eaOf_unseen, byteOf_unseen]
    rfl

theorem afterRead_unseen (o : ReadOperand) (s : State) :
    afterRead o (s.unseen k g c) = (afterRead o s).unseen k g c := by
  rw [afterRead, operandEvents_unseen]
  rfl

theorem enter_unseen (ret : Addr) (image : Byte) (v : Addr) (s : State) :
    enter ret image v (s.unseen k g c) = (enter ret image v s).unseen k g c := by
  have hI : ∀ t : State, setI true (t.unseen k g c) = (setI true t).unseen k g c := fun _ => rfl
  simp only [enter, push16_unseen, push8_unseen, hI, read16_unseen]
  rfl

theorem leave_unseen (s : State) : leave (s.unseen k g c) = (leave s).unseen k g c := by
  rw [leave_eq, leave_eq s]
  rfl

theorem jumpTarget_unseen (w : Addr) (s : State) :
    jumpTarget w (s.unseen k g c) = ((jumpTarget w s).1, (jumpTarget w s).2.unseen k g c) := by
  simp only [jumpTarget, read8_unseen]

theorem shStore_unseen (u : Byte) (r : Resolved) (s : State) :
    shStore u r (s.unseen k g c) = (shStore u r s).unseen k g c :=
  write8_unseen k g c _ _ s

/-- A change of the state that neither looks at what is unseen nor touches it. -/
def EffectBlind (f : State → State) : Prop := ∀ s : State, f (s.unseen k g c) = (f s).unseen k g c

/-- What a meaning answers with the unseen changed beforehand (`r'`) is what it answers (`r`), with the unseen changed. -/
def Blind (r r' : Result) : Prop := ∀ t : State, r = .next t → r' = .next (t.unseen k g c)

variable {k g c}

/-- An answer that counts its cycles last is blind if what comes before is. -/
theorem Blind.ofTick {u u' : State} (n : Nat) (h : u' = u.unseen k g c) :
    Blind k g c (.next (u.tick n)) (.next (u'.tick n)) := by
  intro t ht
  injection ht with ht
  rw [h, tick_unseen, ht]

theorem blind_read (s : State) (cost : Nat) (o : ReadOperand) {f : Byte → State → State}
    (hf : ∀ b, EffectBlind k g c (f b)) :
    Blind k g c (readInstr cost o f s) (readInstr cost o f (s.unseen k g c)) := by
  rw [readInstr_eq, readInstr_eq, byteOf_unseen, afterRead_unseen, crossPenalty_unseen]
  exact Blind.ofTick _ (hf _ _)

theorem blind_store (s : State) (cost : Nat) (m : MemOperand) {value : State → Byte}
    (hv : ∀ s : State, value (s.unseen k g c) = value s) :
    Blind k g c (storeInstr cost m value s) (storeInstr cost m value (s.unseen k g c)) := by
  rw [storeInstr_eq, storeInstr_eq, eaOf_unseen, advance_unseen, hv]
  exact Blind.ofTick _ (write8_unseen ..)

theorem blind_rmw (s : State) (cost : Nat) (m : MemOperand) {f : Byte → State → Byte × Bool}
    {after : Byte → Bool → State → State} (hf : ∀ (b : Byte) (s : State), f b (s.unseen k g c) = f b s)
    (ha : ∀ v b, EffectBlind k g c (after v b)) :
    Blind k g c (rmwInstr cost m f after s) (rmwInstr cost m f after (s.unseen k g c)) := by
  rw [rmwInstr_eq, rmwInstr_eq, byteOf_unseen, afterRead_unseen, hf, eaOf_unseen, write8_unseen]
  exact Blind.ofTick _ (ha _ _ _)

theorem blind_implied (s : State) (cost : Nat) {f : State → State} (hf : EffectBlind k g c f) :
    Blind k g c (impliedInstr cost f s) (impliedInstr cost f (s.unseen k g c)) :=
  Blind.ofTick cost (hf (s.advance 1))

theorem blind_acc (s : State) {f : Byte → State → Byte × Bool}
    (hf : ∀ (m : Byte) (s : State), f m (s.unseen k g c) = f m s) :
    Blind k g c (accInstr f s) (accInstr f (s.unseen k g c)) := by
  refine blind_implied s 2 (fun t => ?_)
  have ha : (t.unseen k g c).a = t.a := rfl
  rw [ha, hf]
  rfl

theorem blind_sh (s : State) (cost : Nat) (m : MemOperand) {value : State → Byte} {f : State → State}
    (hv : ∀ s : State, value (s.unseen k g c) = value s) (hf : EffectBlind k g c f) :
    Blind k g c (shInstr cost m value f s) (shInstr cost m value f (s.unseen k g c)) := by
  rw [shInstr_eq, shInstr_eq, advance_unseen, hv, hf, resolve_fst_unseen]
  exact Blind.ofTick _ (shStore_unseen ..)

theorem blind_branch (s : State) (b : Bool) (o : Byte) :
    Blind k g c (branchInstr b o s) (branchInstr b o (s.unseen k g c)) := by
  cases b with
  | false => exact Blind.ofTick 2 rfl
  | true => exact Blind.ofTick _ rfl

theorem blind_jmpInd (s : State) (w : Addr) : Blind k g c (execJmpInd w s) (execJmpInd w (s.unseen k g c)) := by
  simp only [execJmpInd, advance_unseen, jumpTarget_unseen]
  exact Blind.ofTick 5 rfl

theorem blind_jsr (s : State) (w : Addr) : Blind k g c (execJsrAbs w s) (execJsrAbs w (s.unseen k g c)) := by
  simp only [execJsrAbs, advance_unseen, push16_unseen]
  exact Blind.ofTick 6 rfl

theorem blind_jmpAbs (s : State) (w : Addr) : Blind k g c (execJmpAbs w s) (execJmpAbs w (s.unseen k g c)) :=
  Blind.ofTick 3 rfl

theorem blind_jam (s : State) : Blind k g c (.next (jam s)) (.next (jam (s.unseen k g c))) :=
  Blind.ofTick s.params.jamCycles rfl

theorem effectBlind_addToA (b : Byte) (carry : Bool) : EffectBlind k g c (addToA b carry) := fun _ => rfl

theorem effectBlind_adc (m : Byte) : EffectBlind k g c (adc m) := fun s => effectBlind_addToA m s.flags.c s

theorem effectBlind_sbc (m : Byte) : EffectBlind k g c (sbc m) := fun s => effectBlind_addToA (m ^^^ 0xFF) s.flags.c s

theorem effectBlind_afterRra (v : Byte) (b : Bool) : EffectBlind k g c (afterRra v b) := effectBlind_addToA v b

theorem effectBlind_afterIsb (v : Byte) (b : Bool) : EffectBlind k g c (afterIsb v b) := effectBlind_sbc v

theorem effectBlind_pushA : EffectBlind k g c (fun t => push8 t.a t) := fun s => push8_unseen k g c s.a s

theorem effectBlind_pushP : EffectBlind k g c (fun t => push8 t.breakImage t) :=
  fun s => push8_unseen k g c s.breakImage s

theorem effectBlind_pullA : EffectBlind k g c pullA := by
  intro s
  rw [pullA, pull8_unseen]
  rfl

theorem effectBlind_pullP : EffectBlind k g c pullP := by
  intro s
  rw [pullP, pull8_unseen]
  rfl

theorem effectBlind_returnToCaller : EffectBlind k g c returnToCaller := by
  intro s
  rw [returnToCaller, pull16_unseen]
  rfl

theorem effectBlind_brk : EffectBlind k g c (fun t => enter (t.pc + 1) t.breakImage irqVector t) :=
  fun s => enter_unseen k g c (s.pc + 1) s.breakImage irqVector s

/-- No instruction looks at what is unseen, or touches it: case by case along the shapes of the meanings, those with an effect on the
stack or a jump last. -/
theorem exec_blind (i : Instr) (s : State) : Blind k g c (exec i s) (exec i (s.unseen k g c)) := by
  cases i <;> simp only [exec]
  case adcIzx | adcZp | adcImm | adcAbs | adcIzy | adcZpx | adcAbsy | adcAbsx =>
    exact blind_read s _ _ effectBlind_adc
  case sbcIzx | sbcZp | sbcImmE9 | sbcImmEB | sbcAbs | sbcIzy | sbcZpx | sbcAbsy | sbcAbsx =>
    exact blind_read s _ _ effectBlind_sbc
  case oraIzx | nopZp04 | oraZp | oraImm | ancImm0B | nopAbs | oraAbs | oraIzy | nopZpx14 | oraZpx | oraAbsy | nopAbsx1C |
      oraAbsx | andIzx | bitZp | andZp | andImm | ancImm2B | bitAbs | andAbs | andIzy | nopZpx34 | andZpx | andAbsy |
      nopAbsx3C | andAbsx | eorIzx | nopZp44 | eorZp | eorImm | alrImm | eorAbs | eorIzy | nopZpx54 | eorZpx | eorAbsy |
      nopAbsx5C | eorAbsx | nopZp64 | arrImm | nopZpx74 | nopAbsx7C | nopImm80 | nopImm82 | nopImm89 | xaaImm | ldyImm |
      ldaIzx | ldxImm | laxIzx | ldyZp | ldaZp | ldxZp | laxZp | ldaImm | laxImm | ldyAbs | ldaAbs | ldxAbs | laxAbs |
      ldaIzy | laxIzy | ldyZpx | ldaZpx | ldxZpy | laxZpy | ldaAbsy | lasAbsy | ldyAbsx | ldaAbsx | ldxAbsy | laxAbsy |
      cpyImm | cmpIzx | nopImmC2 | cpyZp | cmpZp | cmpImm | axsImm | cpyAbs | cmpAbs | cmpIzy | nopZpxD4 | cmpZpx |
      cmpAbsy | nopAbsxDC | cmpAbsx | cpxImm | nopImmE2 | cpxZp | cpxAbs | nopZpxF4 | nopAbsxFC =>
    exact blind_read s _ _ (fun _ _ => rfl)
  case staIzx | saxIzx | styZp | staZp | stxZp | saxZp | styAbs | staAbs | stxAbs | saxAbs | staIzy | styZpx | staZpx |
      stxZpy | saxZpy | staAbsy | staAbsx =>
    exact blind_store s _ _ (fun _ => rfl)
  case rraIzx | rraZp | rraAbs | rraIzy | rraZpx | rraAbsy | rraAbsx =>
    exact blind_rmw s _ _ (fun _ _ => rfl) effectBlind_afterRra
  case isbIzx | isbZp | isbAbs | isbIzy | isbZpx | isbAbsy | isbAbsx =>
    exact blind_rmw s _ _ (fun _ _ => rfl) effectBlind_afterIsb
  case sloIzx | aslZp | sloZp | aslAbs | sloAbs | sloIzy | aslZpx | sloZpx | sloAbsy | aslAbsx | sloAbsx | rlaIzx |
      rolZp | rlaZp | rolAbs | rlaAbs | rlaIzy | rolZpx | rlaZpx | rlaAbsy | rolAbsx | rlaAbsx | sreIzx | lsrZp | sreZp |
      lsrAbs | sreAbs | sreIzy | lsrZpx | sreZpx | sreAbsy | lsrAbsx | sreAbsx | rorZp | rorAbs | rorZpx | rorAbsx |
      dcpIzx | decZp | dcpZp | decAbs | dcpAbs | dcpIzy | decZpx | dcpZpx | dcpAbsy | decAbsx | dcpAbsx | incZp | incAbs |
      incZpx | incAbsx =>
    exact blind_rmw s _ _ (fun _ _ => rfl) (fun _ _ _ => rfl)
  case ahxIzy | tasAbsy | shyAbsx | shxAbsy | ahxAbsy =>
    exact blind_sh s _ _ (fun _ => rfl) (fun _ => rfl)
  case bpl | bmi | bvc | bvs | bcc | bcs | bne | beq =>
    exact blind_branch s _ _
  case aslAcc | rolAcc | lsrAcc | rorAcc =>
    exact blind_acc s (fun _ _ => rfl)
  case clc | nopImpl1A | sec | nopImpl3A | cli | nopImpl5A | sei | nopImpl7A | dey | txa | tya | txs | tay | tax | clv |
      tsx | iny | dex | cld | nopImplDA | inx | nopImplEA | sed | nopImplFA =>
    exact blind_implied s _ (fun _ => rfl)
  case jam02 | jam12 | jam22 | jam32 | jam42 | jam52 | jam62 | jam72 | jam92 | jamB2 | jamD2 | jamF2 =>
    exact blind_jam s
  case brk => exact blind_implied s 7 effectBlind_brk
  case rti => exact blind_implied s 6 (leave_unseen k g c)
  case rts => exact blind_implied s 6 effectBlind_returnToCaller
  case pla => exact blind_implied s 4 effectBlind_pullA
  case plp => exact blind_implied s 4 effectBlind_pullP
  case pha => exact blind_implied s 3 effectBlind_pushA
  case php => exact blind_implied s 3 effectBlind_pushP
  case jmpAbs => exact blind_jmpAbs s _
  case jmpInd => exact blind_jmpInd s _
  case jsrAbs => exact blind_jsr s _

/-- R93, R550: a step neither looks at what is unseen nor touches it. -/
theorem step_blind (s : State) : Blind k g c (step s) (step (s.unseen k g c)) := by
  have hj : halted (s.unseen k g c) = halted s := rfl
  unfold step
  rw [hj, fetch_unseen]
  split
  · intro t h
    injection h with h
    rw [h]
  · exact exec_blind _ _

end

/-- R91, R94: a consumer's move writes the ring and the pull in progress only, and looks at nothing but them and the
parameters. -/
theorem consumerMove_congr {s t : State} (hr : t.ring = s.ring) (hc : t.consumer = s.consumer) (hp : t.params = s.params) :
    consumerMove t = ((consumerMove s).1, t.unseen 0 (consumerMove s).2.ring (consumerMove s).2.consumer) := by
  obtain ⟨ta, tx, ty, tsp, tpc, tp, tcy, tj, tm, tt, te, tacc, tg, tq, tk, tpar, td⟩ := t
  simp only at hr hc hp
  subst hr hc hp
  cases hk : s.consumer with
  | idle =>
    simp only [consumerMove, hk]
    split
    · simp only [State.unseen, Nat.add_zero]
    · rfl
  | reading => simp only [consumerMove, hk]; rfl
  | publishing q => simp only [consumerMove, hk]; rfl

/-- Settles O60: the consumer changes only what the CPU does not see (`step_blind`), and the CPU nothing that the consumer looks at
(`effect_of_step`). -/
theorem consumerAndCpuDoNotMeet : Obligations.ConsumerAndCpuDoNotMeet := by
  intro s t h
  obtain ⟨hframe, -, -⟩ := effect_of_step h
  have hr : t.ring = s.ring := by rw [hframe]
  have hc : t.consumer = s.consumer := by rw [hframe]
  have hp : t.params = s.params := by rw [hframe]
  rw [consumerMove_congr hr hc hp, consumerMove_congr (s := s) rfl rfl rfl]
  exact ⟨step_blind s t h, rfl⟩

end Sys2Proof.Machine

/-! ## 30_encoding.md: encoding and decoding are inverse -/

namespace Sys2Proof

section RowLength

variable {op : Byte} (rest : List Byte)

/-- R121: after an opcode of a one-byte row no operand is read. -/
theorem decode_one {i : Instr} (hl : (rowOf op).length = 1) (hi : decodeOp op 0 0 = i) :
    decode ([op] ++ rest) = .ok (i, rest) := by
  simp only [List.singleton_append, decode, hl, hi]

/-- R121: after an opcode of a two-byte row one byte is read, the operand. -/
theorem decode_encode2 {i : Instr} {b : Byte} (hl : (rowOf op).length = 2) (hi : decodeOp op b 0 = i) :
    decode (encode2 op b ++ rest) = .ok (i, rest) := by
  simp only [encode2, List.cons_append, List.nil_append, decode, hl, hi]

/-- R121, R122: after an opcode of a three-byte row the two bytes of the operand word are read, which `wordOf` joins again. -/
theorem decode_encode3 {f : Addr → Instr} {w : Addr} (hl : (rowOf op).length = 3)
    (hf : ∀ b1 b2, decodeOp op b1 b2 = f (wordOf b1 b2)) : decode (encode3 op w ++ rest) = .ok (f w, rest) := by
  simp [decode, encode3, hl, hf]

end RowLength

/-- R120: `decode` undoes `encode`, along the three lengths of an instruction. -/
theorem decode_encode (i : Instr) (rest : List Byte) : decode (encode i ++ rest) = .ok (i, rest) := by
  cases i
  case brk | jam02 | php | aslAcc | jam12 | clc | nopImpl1A | jam22 | plp | rolAcc | jam32 | sec | nopImpl3A | rti | jam42 |
      pha | lsrAcc | jam52 | cli | nopImpl5A | rts | jam62 | pla | rorAcc | jam72 | sei | nopImpl7A | dey | txa | jam92 | tya |
      txs | tay | tax | jamB2 | clv | tsx | iny | dex | jamD2 | cld | nopImplDA | inx | nopImplEA | jamF2 | sed | nopImplFA =>
    exact decode_one rest rfl rfl
  case oraIzx | sloIzx | nopZp04 | oraZp | aslZp | sloZp | oraImm | ancImm0B | bpl | oraIzy | sloIzy | nopZpx14 | oraZpx |
      aslZpx | sloZpx | andIzx | rlaIzx | bitZp | andZp | rolZp | rlaZp | andImm | ancImm2B | bmi | andIzy | rlaIzy |
      nopZpx34 | andZpx | rolZpx | rlaZpx | eorIzx | sreIzx | nopZp44 | eorZp | lsrZp | sreZp | eorImm | alrImm | bvc |
      eorIzy | sreIzy | nopZpx54 | eorZpx | lsrZpx | sreZpx | adcIzx | rraIzx | nopZp64 | adcZp | rorZp | rraZp | adcImm |
      arrImm | bvs | adcIzy | rraIzy | nopZpx74 | adcZpx | rorZpx | rraZpx | nopImm80 | staIzx | nopImm82 | saxIzx | styZp |
      staZp | stxZp | saxZp | nopImm89 | xaaImm | bcc | staIzy | ahxIzy | styZpx | staZpx | stxZpy | saxZpy | ldyImm | ldaIzx |
      ldxImm | laxIzx | ldyZp | ldaZp | ldxZp | laxZp | ldaImm | laxImm | bcs | ldaIzy | laxIzy | ldyZpx | ldaZpx | ldxZpy |
      laxZpy | cpyImm | cmpIzx | nopImmC2 | dcpIzx | cpyZp | cmpZp | decZp | dcpZp | cmpImm | axsImm | bne | cmpIzy | dcpIzy |
      nopZpxD4 | cmpZpx | decZpx | dcpZpx | cpxImm | sbcIzx | nopImmE2 | isbIzx | cpxZp | sbcZp | incZp | isbZp | sbcImmE9 |
      sbcImmEB | beq | sbcIzy | isbIzy | nopZpxF4 | sbcZpx | incZpx | isbZpx =>
    exact decode_encode2 rest rfl rfl
  case nopAbs | oraAbs | aslAbs | sloAbs | oraAbsy | sloAbsy | nopAbsx1C | oraAbsx | aslAbsx | sloAbsx | jsrAbs | bitAbs |
      andAbs | rolAbs | rlaAbs | andAbsy | rlaAbsy | nopAbsx3C | andAbsx | rolAbsx | rlaAbsx | jmpAbs | eorAbs | lsrAbs |
      sreAbs | eorAbsy | sreAbsy | nopAbsx5C | eorAbsx | lsrAbsx | sreAbsx | jmpInd | adcAbs | rorAbs | rraAbs | adcAbsy |
      rraAbsy | nopAbsx7C | adcAbsx | rorAbsx | rraAbsx | styAbs | staAbs | stxAbs | saxAbs | staAbsy | tasAbsy | shyAbsx |
      staAbsx | shxAbsy | ahxAbsy | ldyAbs | ldaAbs | ldxAbs | laxAbs | ldaAbsy | lasAbsy | ldyAbsx | ldaAbsx | ldxAbsy |
      laxAbsy | cpyAbs | cmpAbs | decAbs | dcpAbs | cmpAbsy | dcpAbsy | nopAbsxDC | cmpAbsx | decAbsx | dcpAbsx | cpxAbs |
      sbcAbs | incAbs | isbAbs | sbcAbsy | isbAbsy | nopAbsxFC | sbcAbsx | incAbsx | isbAbsx =>
    exact decode_encode3 rest rfl fun _ _ => rfl

/-- R120 to R122: the bytes of an instruction of length `n`: the opcode, then nothing, the operand byte, or the operand word with
its low byte first. -/
def bytesOf (n : Nat) (op b : Byte) (w : Addr) : List Byte :=
  match n with
  | 1 => [op]
  | 2 => encode2 op b
  | _ => encode3 op w

/-- R122: two operand bytes, as the word they are, are the operand bytes themselves. -/
theorem bytesOf_rowOf (op b1 b2 : Byte) :
    bytesOf (rowOf op).length op b1 (wordOf b1 b2) = [op, b1, b2].take (rowOf op).length := by
  rcases rowOf_length op with hl | hl | hl <;> simp [hl, bytesOf, encode2, encode3]

/-- R123, R124: the instruction an opcode selects is encoded by that opcode and the operand bytes its row has, at each of the 256
places of the opcode map. -/
theorem encode_decodeOp (op b1 b2 : Byte) : encode (decodeOp op b1 b2) = [op, b1, b2].take (rowOf op).length := by
  rw [← bytesOf_rowOf]
  obtain ⟨n, hn, rfl⟩ : ∃ n < 256, op = BitVec.ofNat 8 n := ⟨op.toNat, op.isLt, by simp⟩
  interval_cases n <;> rfl

theorem length_encode_decodeOp (op b1 b2 : Byte) : (encode (decodeOp op b1 b2)).length = (rowOf op).length := by
  rw [encode_decodeOp, List.length_take]
  rcases rowOf_length op with hl | hl | hl <;> rw [hl] <;> rfl

/-- R123: the opcode of the instruction that an opcode selects is that opcode. -/
@[simp] theorem opcode_decodeOp (op b1 b2 : Byte) : (decodeOp op b1 b2).opcode = op := by
  rw [Instr.opcode, encode_decodeOp]
  rcases rowOf_length op with hl | hl | hl <;> rw [hl] <;> rfl

/-- R151: the row of the instruction that an opcode selects is the row of that opcode. -/
@[simp] theorem row_decodeOp (op b1 b2 : Byte) : (decodeOp op b1 b2).row = rowOf op := by
  rw [Instr.row, opcode_decodeOp]

/-- What `decode` answers is the instruction of the opcode in front, and it has read the bytes of the opcode's row. -/
theorem decode_eq_ok {bs : List Byte} {i : Instr} {rest : List Byte} (h : decode bs = .ok (i, rest)) :
    ∃ op b1 b2, i = decodeOp op b1 b2 ∧ bs = [op, b1, b2].take (rowOf op).length ++ rest := by
  cases bs with
  | nil => cases h
  | cons op tail =>
    simp only [decode] at h
    split at h
    next hl => cases h; exact ⟨op, 0, 0, rfl, by rw [hl]; rfl⟩
    next b1 _ hl => cases h; exact ⟨op, b1, 0, rfl, by rw [hl]; rfl⟩
    next b1 b2 _ hl => cases h; exact ⟨op, b1, b2, rfl, by rw [hl]; rfl⟩
    next => cases h

/-- R125: three bytes are enough for every opcode. -/
theorem decode_three_bytes (op b1 b2 : Byte) :
    ∃ c1 c2, decode [op, b1, b2] = .ok (decodeOp op c1 c2, [op, b1, b2].drop (rowOf op).length) := by
  rcases rowOf_length op with hl | hl | hl
  · exact ⟨0, 0, by simp [decode, hl]⟩
  · exact ⟨b1, 0, by simp [decode, hl]⟩
  · exact ⟨b1, b2, by simp [decode, hl]⟩

/-- Every instruction is well formed: it is one that `decodeOp` gives, as `decode` gives it from its encoding. -/
theorem Instr.wellFormed_eq_true (i : Instr) : i.wellFormed = true := by
  obtain ⟨op, b1, b2, rfl, -⟩ := decode_eq_ok (decode_encode i [])
  simp [Instr.wellFormed, rowOf_wellFormed, length_encode_decodeOp]

/-- A table word stands for the instruction whose encoding its bytes begin with. -/
theorem decodeTableWord_of_encode {nbits w : Nat} {i : Instr} {rest : List Byte}
    (h : [tableByte nbits w 0, tableByte nbits w 1, tableByte nbits w 2] = encode i ++ rest) :
    decodeTableWord nbits w = some i := by
  rw [decodeTableWord, h, decode_encode]

/-- Settles O1: `decode_encode`, and every instruction is well formed. -/
theorem encodeThenDecodeGivesTheInstruction : Obligations.EncodeThenDecodeGivesTheInstruction :=
  fun i rest => ⟨Instr.wellFormed_eq_true i, decode_encode i rest⟩

/-- Settles O2: the bytes that `decode` has read are the encoding of what `decodeOp` gives from them (`encode_decodeOp`). -/
theorem decodedBytesAreTheEncoding : Obligations.DecodedBytesAreTheEncoding := by
  intro bs i rest h
  obtain ⟨op, b1, b2, rfl, hbs⟩ := decode_eq_ok h
  rw [encode_decodeOp, hbs]

/-- Settles O3: three bytes decode to what `decodeOp` gives for the opcode, whose opcode and row are the opcode's own. -/
theorem everyOpcodeSelectsOneRow : Obligations.EveryOpcodeSelectsOneRow := by
  intro op b1 b2
  obtain ⟨c1, c2, h⟩ := decode_three_bytes op b1 b2
  exact ⟨decodeOp op c1 c2, h, opcode_decodeOp op c1 c2, row_decodeOp op c1 c2, rowOf_opcode op, rowOf_wellFormed op⟩

/-- Settles O4: the bytes of each word begin with the encoding of its instruction. -/
theorem wordsOfTheSpecDecode : Obligations.WordsOfTheSpecDecode := by
  refine ⟨?_, ?_, ?_, ?_, ?_, ?_, ?_, ?_, ?_, ?_⟩ <;> exact decodeTableWord_of_encode rfl

end Sys2Proof

/-! ## 40_execution.md: effective addresses and operand bytes -/

namespace Sys2Proof.Machine

/-- R163: a byte and its zero-page address are the same number. -/
theorem zeroPage_toNat (z : Byte) : (zeroPage z).toNat = z.toNat := BitVec.toNat_setWidth_of_le (by decide)

/-- R167, R168, R171: indexing adds mod 2^16. -/
theorem indexed_ea_toNat (base : Addr) (i : Byte) : (Resolved.indexed base i).ea.toNat = (base.toNat + i.toNat) % 65536 := by
  have hea : (Resolved.indexed base i).ea = base + zeroPage i := rfl
  rw [hea, BitVec.toNat_add, zeroPage_toNat]

/-- R167, R168, R171: a page is crossed when indexing changes the high byte of the address. -/
theorem indexed_crossed (base : Addr) (i : Byte) :
    (Resolved.indexed base i).crossed = decide (base.toNat / 256 ≠ (base.toNat + i.toNat) % 65536 / 256) := by
  have hc : (Resolved.indexed base i).crossed = (hi base != hi (Resolved.indexed base i).ea) := rfl
  rw [hc, ← indexed_ea_toNat, ← hi_toNat, ← hi_toNat, bne, beq_eq_decide, ← decide_not]
  simp only [ne_eq, BitVec.toNat_eq]

/-- Settles O10: the sums of `zeroPage_toNat` and `indexed_ea_toNat`, and the page crosses of `indexed_crossed`. -/
theorem indexedAddressesWrap : Obligations.IndexedAddressesWrap := by
  intro s z w
  have hzp : ∀ b : Byte, (zeroPage (z + b)).toNat = (z.toNat + b.toNat) % 256 := fun b => by
    rw [zeroPage_toNat, BitVec.toNat_add]
  exact ⟨zeroPage_toNat z, hzp s.x, hzp s.y, rfl, indexed_ea_toNat w s.x, indexed_ea_toNat w s.y, rfl, rfl, rfl, rfl,
    indexed_crossed w s.x, indexed_crossed w s.y⟩

/-- R170, R171, R80: a pointer in numbers: its bytes stand in page zero at `n` and `n + 1`, both mod 256. -/
theorem pointerAt_toNat {z : Byte} {n : Nat} (hz : z.toNat = n % 256) (s : State) :
    (pointerAt z s).1.toNat =
      (Memory.read s.ram (n % 256)).toNat + 256 * (Memory.read s.ram ((n + 1) % 256)).toNat := by
  have hnext : (z + 1).toNat = (n + 1) % 256 := by
    rw [BitVec.toNat_add, hz]
    exact Nat.mod_add_mod n 256 1
  rw [pointerAt_eq, wordOf_toNat, hz, hnext]

/-- Settles O11: both modes take their pointer from `pointerAt_toNat`, and `(zp),Y` indexes it as the absolute modes do. -/
theorem pointersAreReadFromPageZero : Obligations.PointersAreReadFromPageZero := by
  intro s z m at0 ptr
  have hptr : (pointerAt z s).1.toNat = ptr := pointerAt_toNat (Nat.mod_eq_of_lt z.isLt).symm s
  refine ⟨pointerAt_toNat (BitVec.toNat_add z s.x) s, rfl, ?_, ?_, resolve_state m s⟩
  · rw [← hptr]
    exact indexed_ea_toNat _ s.y
  · rw [← hptr]
    exact indexed_crossed _ s.y

/-- R162, R173: a memory operand is one bus read of EA. -/
theorem readOperand_mem (m : MemOperand) (s : State) :
    readOperand (.mem m) s =
      { byte := (read8 (eaOf m s) s).1, penalty := crossPenalty (.mem m) s, after := (read8 (eaOf m s) s).2 } := by
  rw [crossPenalty_eq]
  simp only [readOperand, resolve_state, eaOf_eq]

/-- Settles O12: `readOperand_mem`, and what a bus read outside the register window gives. -/
theorem operandIsReadOnce : Obligations.OperandIsReadOnce := by
  intro s v m
  rw [readOperand_mem]
  exact ⟨rfl, rfl, rfl, rfl, fun b hb => Prod.mk.inj (read8_of_peek hb)⟩

end Sys2Proof.Machine

/-! ## 40_execution.md: a step, and the jammed CPU -/

namespace Sys2Proof.Machine

/-- R156: a step of a jammed CPU does nothing. -/
theorem step_jammed {s : State} (h : s.jammed = true) : step s = .next s := by
  rw [step, halted, if_pos h]

/-- R150: any other step is exec of the instruction fetched, at the state after its bytes are read. -/
theorem step_running {s : State} (h : s.jammed = false) : step s = exec (fetch s).1 (fetch s).2 := by
  rw [step, halted, if_neg (by simp [h])]

/-- R150, R88: the bytes read from PC on, as many as the row of the first one says, decode to the instruction that `fetch` answers, which
makes the same reads. -/
theorem decode_fetchBytes (s : State) :
    decode (fetchBytes (rowOf (read8 s.pc s).1).length s.pc s).1 = .ok ((fetch s).1, []) ∧
      (fetchBytes (rowOf (read8 s.pc s).1).length s.pc s).2 = (fetch s).2 := by
  have hpc : s.pc + 1 + 1 = s.pc + 2 := by rw [add_assoc]; rfl
  rcases rowOf_length (read8 s.pc s).1 with hl | hl | hl <;>
    simp only [fetchBytes, fetch, decode, hl, hpc, and_self]

/-- R150: bytes that stand in memory from `a` on are what reading there gives, and reading them changes nothing. -/
theorem fetchBytes_of_peek {bs : List Byte} {a : Addr} {s : State}
    (h : ∀ k, k < bs.length → peek s (a + BitVec.ofNat 16 k) = bs[k]?) : fetchBytes bs.length a s = (bs, s) := by
  induction bs generalizing a with
  | nil => rfl
  | cons b bs ih =>
    have hb : read8 a s = (b, s) := read8_of_peek (by simpa using h 0 (by simp))
    have hnext : ∀ k, a + BitVec.ofNat 16 (k + 1) = a + 1 + BitVec.ofNat 16 k := fun k => by
      rw [Nat.add_comm k 1, BitVec.ofNat_add, ← add_assoc]
      rfl
    have hbs : fetchBytes bs.length (a + 1) s = (bs, s) := ih fun k hk => by
      rw [← hnext, h (k + 1) (Nat.succ_lt_succ hk), List.getElem?_cons_succ]
    simp only [List.length_cons, fetchBytes, hb, hbs]

/-- R121: an instruction has as many bytes as the row of its opcode says. -/
theorem length_encode (i : Instr) : (encode i).length = (rowOf i.opcode).length := by
  obtain ⟨op, b1, b2, rfl, -⟩ := decode_eq_ok (decode_encode i [])
  rw [length_encode_decodeOp, opcode_decodeOp]

/-- R120: the first byte of an instruction is its opcode. -/
theorem encode_eq_cons (i : Instr) : ∃ rest, encode i = i.opcode :: rest := by
  have hpos : (encode i).length ≠ 0 := by
    rw [length_encode]
    rcases rowOf_length i.opcode with hl | hl | hl <;> simp [hl]
  obtain ⟨op, rest, h⟩ := List.exists_cons_of_ne_nil (fun h => hpos (List.length_eq_zero_iff.2 h))
  exact ⟨rest, by rw [Instr.opcode, h, List.headD_cons]⟩

/-- R150: where the encoding of an instruction stands in memory at PC, `fetch` answers it and changes nothing. -/
theorem fetch_of_peek {i : Instr} {s : State}
    (h : ∀ k, k < (encode i).length → peek s (s.pc + BitVec.ofNat 16 k) = (encode i)[k]?) : fetch s = (i, s) := by
  obtain ⟨rest, hcons⟩ := encode_eq_cons i
  have hop : read8 s.pc s = (i.opcode, s) := read8_of_peek (by simpa [hcons] using h 0 (by simp [hcons]))
  obtain ⟨hdec, hafter⟩ := decode_fetchBytes s
  rw [hop, ← length_encode, fetchBytes_of_peek h] at hdec hafter
  have hd := decode_encode i []
  rw [List.append_nil, hdec] at hd
  exact Prod.ext (by simpa using hd) hafter.symm

/-- Settles O5: a step is exec of what `fetch` answers (`step_running`), which is what the bytes at PC decode to. -/
theorem stepRunsTheInstructionAtPC : Obligations.StepRunsTheInstructionAtPC := by
  refine ⟨fun s h => ?_, fun s i h hi => ?_⟩
  · obtain ⟨hdec, hafter⟩ := decode_fetchBytes s
    exact ⟨(fetch s).1, hdec, Instr.wellFormed_eq_true _, by rw [hafter, step_running h]⟩
  · rw [step_running h, fetch_of_peek hi]

/-- R155: the condition on which the loop of `run` makes another step. -/
def RunGoesOn (target start : Nat) (s : State) : Prop := s.cycles - start < target ∧ s.jammed = false

/-- R155: where the loop of `run` goes on, it steps once. -/
theorem runLoop_goesOn {target start : Nat} {s : State} (h : RunGoesOn target start s) (fuel : Nat) :
    runLoop (fuel + 1) target start s = runLoop fuel target start (stepState s) := by
  obtain ⟨hlt, hj⟩ := h
  simp [runLoop, hlt, hj]

/-- R155: where it does not go on, it leaves the state as it is. -/
theorem runLoop_stops {target start : Nat} {s : State} (h : ¬RunGoesOn target start s) (fuel : Nat) :
    runLoop fuel target start s = s := by
  cases fuel with
  | zero => rfl
  | succ fuel => rw [runLoop, if_neg (by simpa [RunGoesOn] using h)]

theorem not_runGoesOn_of_jammed {s : State} (h : s.jammed = true) (target start : Nat) : ¬RunGoesOn target start s :=
  fun ⟨_, hj⟩ => Bool.false_ne_true (hj.symm.trans h)

/-- Settles O6: each call looks at `jammed` first; the loop of `run` does not go on. -/
theorem jammedCpuStandsStill : Obligations.JammedCpuStandsStill := by
  intro s h
  refine ⟨step_jammed h, ?_, ?_, fun n => ?_⟩
  · rw [nmi, if_pos h]
  · simp [irq, h]
  · simp [run, runLoop_stops (not_runGoesOn_of_jammed h n s.cycles)]

end Sys2Proof.Machine

/-! ## 40_execution.md: what an instruction costs -/

namespace Sys2Proof.Machine

/-- R152: what a part of an instruction leaves alone that does not count the cycles: `cycles` and `jammed`. -/
def KeepsClock (s t : State) : Prop := t.cycles = s.cycles ∧ t.jammed = s.jammed

theorem KeepsClock.trans {s t u : State} (h : KeepsClock s t) (k : KeepsClock t u) : KeepsClock s u :=
  ⟨k.1.trans h.1, k.2.trans h.2⟩

theorem keepsClock_read8 (a : Addr) (s : State) : KeepsClock s (read8 a s).2 := by
  rw [read8_frame]
  exact ⟨rfl, rfl⟩

theorem keepsClock_write8 (a : Addr) (v : Byte) (s : State) : KeepsClock s (write8 a v s) := by
  rw [write8_eq]
  exact ⟨rfl, rfl⟩

theorem keepsClock_push8 (v : Byte) (s : State) : KeepsClock s (push8 v s) := by
  rw [push8_eq]
  exact ⟨rfl, rfl⟩

theorem keepsClock_push16 (w : Addr) (s : State) : KeepsClock s (push16 w s) := by
  rw [push16_eq]
  exact ⟨rfl, rfl⟩

theorem keepsClock_pullA (s : State) : KeepsClock s (pullA s) := by
  rw [pullA, pull8_eq]
  exact ⟨rfl, rfl⟩

theorem keepsClock_pullP (s : State) : KeepsClock s (pullP s) := by
  rw [pullP, pull8_eq]
  exact ⟨rfl, rfl⟩

theorem keepsClock_returnToCaller (s : State) : KeepsClock s (returnToCaller s) := by
  rw [returnToCaller, pull16_eq]
  exact ⟨rfl, rfl⟩

theorem keepsClock_leave (s : State) : KeepsClock s (leave s) := by
  rw [leave_eq]
  exact ⟨rfl, rfl⟩

theorem keepsClock_enterIrq (ret : Addr) (image : Byte) (s : State) : KeepsClock s (enter ret image irqVector s) := by
  rw [enter_eq ret image (by decide) (by decide)]
  exact ⟨rfl, rfl⟩

theorem keepsClock_fetch (s : State) : KeepsClock s (fetch s).2 := by
  unfold fetch
  simp only
  split
  · exact keepsClock_read8 ..
  · exact (keepsClock_read8 ..).trans (keepsClock_read8 ..)
  · exact (keepsClock_read8 ..).trans ((keepsClock_read8 ..).trans (keepsClock_read8 ..))

/-- R153: whether indexing to the operand can cost a cycle. -/
def canCross : ReadOperand → Bool
  | .imm _ => false
  | .mem (.absx _) => true
  | .mem (.absy _) => true
  | .mem (.izy _) => true
  | .mem (.zp _) => false
  | .mem (.zpx _) => false
  | .mem (.zpy _) => false
  | .mem (.abs _) => false
  | .mem (.izx _) => false

/-- R153: there is a page-cross penalty only where indexing can cost a cycle. -/
theorem crossPenalty_cases (o : ReadOperand) (s : State) :
    crossPenalty o s = 0 ∨ canCross o = true ∧ crossPenalty o s = 1 := by
  have hle := crossPenalty_le o s
  cases o with
  | imm v => exact .inl rfl
  | mem m =>
    cases m
    case absx | absy | izy => exact (Nat.le_one_iff_eq_zero_or_eq_one.1 hle).imp_right (⟨rfl, ·⟩)
    case zp | zpx | zpy | abs | izx => exact .inl rfl

/-- R320: a taken branch costs one cycle more, or two. -/
theorem branchPenalty_cases (next target : Addr) : branchPenalty next target = 1 ∨ branchPenalty next target = 2 := by
  unfold branchPenalty
  cases hi next != hi target
  · exact .inl rfl
  · exact .inr rfl

/-- R152, R153: the cycles that may come on top of a row's base cycles. -/
def AllowsPenalty (r : Row) (k : Nat) : Prop := k = 0 ∨ r.pageCross = true ∧ k = 1 ∨ r.branch = true ∧ (k = 1 ∨ k = 2)

/-- R152 to R154, R400: the two ways an instruction's meaning counts: the base cycles of its row and an allowed penalty, at most 8 in all,
with `jammed` as it was; or it jams. -/
inductive Timed (i : Instr) (r : Row) (s : State) : Result → Prop
  | counted {n k : Nat} {t : State} (hrow : r.cycles = .fixed n) (hk : AllowsPenalty r k) (hle : n + k ≤ 8)
      (hcycles : t.cycles = s.cycles + (n + k)) (hjammed : t.jammed = s.jammed) : Timed i r s (.next t)
  | jam (hrow : r.cycles = .jamCycles) (hmem : i ∈ jamInstrs) : Timed i r s (.next (jam s))

section

variable {i : Instr} {r : Row} {n : Nat} (s : State)

/-- R152: no penalty: the cycles counted last are the base cycles. -/
theorem timed_tick {t : State} (hrow : r.cycles = .fixed n) (hle : n ≤ 8) (ht : KeepsClock s t) :
    Timed i r s (.next (t.tick n)) := by
  obtain ⟨hcycles, hjammed⟩ := ht
  exact .counted (k := 0) hrow (.inl rfl) hle (by rw [State.tick_cycles, hcycles]; rfl) hjammed

theorem timed_read (o : ReadOperand) {f : Byte → State → State} (hrow : r.cycles = .fixed n)
    (hcross : r.pageCross = canCross o) (hle : n ≤ 7) (hf : ∀ b t, KeepsClock t (f b t)) :
    Timed i r s (readInstr n o f s) := by
  obtain ⟨hcycles, hjammed⟩ := hf (byteOf o s) (afterRead o s)
  have hpenalty : AllowsPenalty r (crossPenalty o s) := by
    rw [AllowsPenalty, hcross]
    exact (crossPenalty_cases o s).imp_right .inl
  have hp := crossPenalty_le o s
  rw [readInstr_eq]
  exact .counted hrow hpenalty (by omega) (by rw [State.tick_cycles, hcycles]; rfl) hjammed

theorem timed_store (m : MemOperand) (value : State → Byte) (hrow : r.cycles = .fixed n) (hle : n ≤ 8) :
    Timed i r s (storeInstr n m value s) := by
  rw [storeInstr_eq]
  exact timed_tick s hrow hle (keepsClock_write8 _ _ (s.advance _))

theorem timed_rmw (m : MemOperand) (f : Byte → State → Byte × Bool) {after : Byte → Bool → State → State}
    (hrow : r.cycles = .fixed n) (hle : n ≤ 8) (hafter : ∀ v c t, KeepsClock t (after v c t)) :
    Timed i r s (rmwInstr n m f after s) := by
  rw [rmwInstr_eq]
  exact timed_tick s hrow hle ((keepsClock_write8 _ _ (afterRead (.mem m) s)).trans (hafter ..))

theorem timed_implied {f : State → State} (hrow : r.cycles = .fixed n) (hle : n ≤ 8) (hf : ∀ t, KeepsClock t (f t)) :
    Timed i r s (impliedInstr n f s) :=
  timed_tick s hrow hle (hf (s.advance 1))

theorem timed_acc (f : Byte → State → Byte × Bool) (hrow : r.cycles = .fixed 2) : Timed i r s (accInstr f s) :=
  timed_implied s hrow (by decide) fun _ => ⟨rfl, rfl⟩

theorem timed_sh (m : MemOperand) (value : State → Byte) {f : State → State} (hrow : r.cycles = .fixed n)
    (hle : n ≤ 8) (hf : ∀ t, KeepsClock t (f t)) : Timed i r s (shInstr n m value f s) := by
  rw [shInstr_eq]
  exact timed_tick s hrow hle ((hf (s.advance _)).trans (keepsClock_write8 ..))

theorem timed_branch (b : Bool) (o : Byte) (hrow : r.cycles = .fixed 2) (hbranch : r.branch = true) :
    Timed i r s (branchInstr b o s) := by
  cases b with
  | false => exact timed_tick s hrow (by decide) ⟨rfl, rfl⟩
  | true =>
    have hp := branchPenalty_cases (s.advance 2).pc (branchTarget (s.advance 2).pc o)
    exact .counted hrow (.inr (.inr ⟨hbranch, hp⟩)) (by omega) rfl rfl

end

/-- R152 to R154, R400: every instruction is timed by its row, case by case along the shapes of the meanings, those with an effect on the
stack or a jump last. -/
theorem exec_timed (i : Instr) (s : State) : Timed i i.row s (exec i s) := by
  cases i <;> simp only [exec, Instr.row, Instr.opcode, encode, encode2, encode3, List.headD_cons]
  case oraIzx | nopZp04 | oraZp | oraImm | ancImm0B | nopAbs | oraAbs | oraIzy | nopZpx14 | oraZpx | oraAbsy | nopAbsx1C |
      oraAbsx | andIzx | bitZp | andZp | andImm | ancImm2B | bitAbs | andAbs | andIzy | nopZpx34 | andZpx | andAbsy |
      nopAbsx3C | andAbsx | eorIzx | nopZp44 | eorZp | eorImm | alrImm | eorAbs | eorIzy | nopZpx54 | eorZpx | eorAbsy |
      nopAbsx5C | eorAbsx | nopZp64 | arrImm | nopZpx74 | nopAbsx7C | nopImm80 | nopImm82 | nopImm89 | xaaImm | ldyImm |
      ldaIzx | ldxImm | laxIzx | ldyZp | ldaZp | ldxZp | laxZp | ldaImm | laxImm | ldyAbs | ldaAbs | ldxAbs | laxAbs |
      ldaIzy | laxIzy | ldyZpx | ldaZpx | ldxZpy | laxZpy | ldaAbsy | lasAbsy | ldyAbsx | ldaAbsx | ldxAbsy | laxAbsy |
      cpyImm | cmpIzx | nopImmC2 | cpyZp | cmpZp | cmpImm | axsImm | cpyAbs | cmpAbs | cmpIzy | nopZpxD4 | cmpZpx |
      cmpAbsy | nopAbsxDC | cmpAbsx | cpxImm | nopImmE2 | cpxZp | cpxAbs | nopZpxF4 | nopAbsxFC | adcIzx | adcZp | adcImm |
      adcAbs | adcIzy | adcZpx | adcAbsy | adcAbsx | sbcIzx | sbcZp | sbcImmE9 | sbcImmEB | sbcAbs | sbcIzy | sbcZpx |
      sbcAbsy | sbcAbsx =>
    exact timed_read s _ rfl rfl (by decide) fun _ _ => ⟨rfl, rfl⟩
  case staIzx | saxIzx | styZp | staZp | stxZp | saxZp | styAbs | staAbs | stxAbs | saxAbs | staIzy | styZpx | staZpx |
      stxZpy | saxZpy | staAbsy | staAbsx =>
    exact timed_store s _ _ rfl (by decide)
  case sloIzx | aslZp | sloZp | aslAbs | sloAbs | sloIzy | aslZpx | sloZpx | sloAbsy | aslAbsx | sloAbsx | rlaIzx |
      rolZp | rlaZp | rolAbs | rlaAbs | rlaIzy | rolZpx | rlaZpx | rlaAbsy | rolAbsx | rlaAbsx | sreIzx | lsrZp | sreZp |
      lsrAbs | sreAbs | sreIzy | lsrZpx | sreZpx | sreAbsy | lsrAbsx | sreAbsx | rorZp | rorAbs | rorZpx | rorAbsx |
      dcpIzx | decZp | dcpZp | decAbs | dcpAbs | dcpIzy | decZpx | dcpZpx | dcpAbsy | decAbsx | dcpAbsx | incZp | incAbs |
      incZpx | incAbsx | rraIzx | rraZp | rraAbs | rraIzy | rraZpx | rraAbsy | rraAbsx | isbIzx | isbZp | isbAbs | isbIzy |
      isbZpx | isbAbsy | isbAbsx =>
    exact timed_rmw s _ _ rfl (by decide) fun _ _ _ => ⟨rfl, rfl⟩
  case ahxIzy | tasAbsy | shyAbsx | shxAbsy | ahxAbsy =>
    exact timed_sh s _ _ rfl (by decide) fun _ => ⟨rfl, rfl⟩
  case bpl | bmi | bvc | bvs | bcc | bcs | bne | beq =>
    exact timed_branch s _ _ rfl rfl
  case aslAcc | rolAcc | lsrAcc | rorAcc =>
    exact timed_acc s _ rfl
  case clc | nopImpl1A | sec | nopImpl3A | cli | nopImpl5A | sei | nopImpl7A | dey | txa |
      tya | txs | tay | tax | clv | tsx | iny | dex | cld | nopImplDA | inx | nopImplEA | sed | nopImplFA =>
    exact timed_implied s rfl (by decide) fun _ => ⟨rfl, rfl⟩
  case jam02 | jam12 | jam22 | jam32 | jam42 | jam52 | jam62 | jam72 | jam92 | jamB2 | jamD2 | jamF2 =>
    exact .jam rfl (by decide)
  case brk => exact timed_implied s rfl (by decide) fun t => keepsClock_enterIrq _ _ t
  case rti => exact timed_implied s rfl (by decide) keepsClock_leave
  case rts => exact timed_implied s rfl (by decide) keepsClock_returnToCaller
  case pla => exact timed_implied s rfl (by decide) keepsClock_pullA
  case plp => exact timed_implied s rfl (by decide) keepsClock_pullP
  case pha => exact timed_implied s rfl (by decide) fun t => keepsClock_push8 t.a t
  case php => exact timed_implied s rfl (by decide) fun t => keepsClock_push8 t.breakImage t
  case jmpAbs => exact timed_tick (n := 3) s rfl (by decide) ⟨rfl, rfl⟩
  case jmpInd w =>
    exact timed_tick (n := 5) s rfl (by decide) ((keepsClock_read8 w (s.advance 3)).trans (keepsClock_read8 ..))
  case jsrAbs w => exact timed_tick (n := 6) s rfl (by decide) (keepsClock_push16 _ (s.advance 3))

/-- R154: a row with a number for its base cycles has 2 at least. -/
theorem two_le_of_row_cycles {i : Instr} {n : Nat} (h : i.row.cycles = .fixed n) : 2 ≤ n := by
  have hwf := rowOf_wellFormed i.opcode
  have hrule : (rowOf i.opcode).cyclesRule = true := by
    simp only [Row.wellFormed, Bool.and_eq_true] at hwf
    obtain ⟨⟨⟨_, hrule⟩, _⟩, _⟩ := hwf
    exact hrule
  have hcycles : (rowOf i.opcode).cycles = .fixed n := h
  rw [Row.cyclesRule, hcycles] at hrule
  simp only [Bool.and_eq_true, decide_eq_true_eq] at hrule
  obtain ⟨⟨hn, _⟩, _⟩ := hrule
  exact hn

/-- Settles O40: the two cases of `exec_timed`, with the bounds of the row table. -/
theorem everyInstructionCompletesAtItsCost : Obligations.EveryInstructionCompletesAtItsCost := by
  intro i s
  generalize hexec : exec i s = out
  cases hexec ▸ exec_timed i s with
  | @counted n k t hrow hk hle hcycles hjammed =>
    have h2 := two_le_of_row_cycles hrow
    have hbase : baseCyclesOf i.row s.params = n := by rw [baseCyclesOf, hrow]
    rw [hbase]
    exact ⟨t, k, rfl, by rw [hcycles, Nat.add_assoc], hk, .inl ⟨hjammed, Nat.le_add_right_of_le h2, hle⟩⟩
  | jam hrow hmem =>
    have hbase : baseCyclesOf i.row s.params = s.params.jamCycles := by rw [baseCyclesOf, hrow]
    exact ⟨jam s, 0, rfl, by rw [hbase]; rfl, .inl rfl, .inr ⟨hmem, rfl⟩⟩

end Sys2Proof.Machine

/-! ## 40_execution.md: `run` -/

namespace Sys2Proof.Machine

/-- R154, R156, R400: what a step of a CPU that is not jammed adds to `cycles`: 2 to 8 without a jam, `JAM_CYCLES` with one. -/
theorem stepState_clock {s : State} (h : s.jammed = false) :
    ((stepState s).jammed = false ∧ s.cycles + 2 ≤ (stepState s).cycles ∧ (stepState s).cycles ≤ s.cycles + 8) ∨
      ((stepState s).jammed = true ∧ (stepState s).cycles = s.cycles + s.params.jamCycles) := by
  have ht := exec_timed (fetch s).1 (fetch s).2
  rw [← step_running h, step_eq_stepState] at ht
  obtain ⟨hc, hj⟩ := keepsClock_fetch s
  generalize stepState s = t at ht ⊢
  cases ht with
  | counted hrow hk hle hcycles hjammed =>
    have h2 := two_le_of_row_cycles hrow
    exact .inl ⟨hjammed.trans (hj.trans h), by omega, by omega⟩
  | jam hrow hmem =>
    obtain ⟨hframe, -, -⟩ := effect_fetch s
    have hp : (fetch s).2.params = s.params := by rw [hframe]
    exact .inr ⟨rfl, by rw [← hc, ← hp]; rfl⟩

/-- R157: the bounds on the cycles elapsed since `start`, at each turn of the loop of `run`. -/
def RunBound (target start : Nat) (s : State) : Prop :=
  start ≤ s.cycles ∧ (s.jammed = false → s.cycles - start ≤ target + 7) ∧
    (s.jammed = true → s.cycles - start ≤ target - 1 + s.params.jamCycles)

/-- R157: a step keeps the bounds, as it is made only before the target is reached. -/
theorem runBound_stepState {target start : Nat} {s : State} (hb : RunBound target start s)
    (hgo : RunGoesOn target start s) : RunBound target start (stepState s) := by
  obtain ⟨hstart, -, -⟩ := hb
  obtain ⟨hlt, hj⟩ := hgo
  have hp : (stepState s).params = s.params := by
    obtain ⟨hframe, -, -⟩ := effect_stepState s
    rw [hframe]
  rw [RunBound, hp]
  rcases stepState_clock hj with ⟨hj', hlo, hhi⟩ | ⟨hj', hc⟩
  · exact ⟨by omega, fun _ => by omega, fun hk => by simp [hj'] at hk⟩
  · exact ⟨by omega, fun hk => by simp [hj'] at hk, fun _ => by omega⟩

/-- R157: the loop of `run` ends within the bounds. -/
theorem runBound_runLoop {target start : Nat} (fuel : Nat) {s : State} (hb : RunBound target start s) :
    RunBound target start (runLoop fuel target start s) := by
  induction fuel generalizing s with
  | zero => exact hb
  | succ fuel ih =>
    by_cases hgo : RunGoesOn target start s
    · rw [runLoop_goesOn hgo]
      exact ih (runBound_stepState hb hgo)
    · rw [runLoop_stops hgo]
      exact hb

/-- R155: with fuel for the cycles left to the target, the loop of `run` ends because the CPU is jammed or the target is reached: each step
adds cycles or jams. -/
theorem runLoop_ends {target start : Nat} (fuel : Nat) {s : State} (hstart : start ≤ s.cycles)
    (hfuel : target ≤ s.cycles - start + fuel) : ¬RunGoesOn target start (runLoop fuel target start s) := by
  induction fuel generalizing s with
  | zero => exact fun ⟨hlt, _⟩ => Nat.not_lt.2 hfuel hlt
  | succ fuel ih =>
    by_cases hgo : RunGoesOn target start s
    · rw [runLoop_goesOn hgo]
      obtain ⟨hlt, hj⟩ := hgo
      rcases stepState_clock hj with ⟨hj', hlo, hhi⟩ | ⟨hj', hc⟩
      · exact ih (by omega) (by omega)
      · have hstop := not_runGoesOn_of_jammed hj' target start
        rw [runLoop_stops hstop]
        exact hstop
    · rw [runLoop_stops hgo]
      exact hgo

/-- Settles O49: `RunBound` holds along the loop, and the loop ends only at a jam or at the target (`runLoop_ends`). -/
theorem runStopsWithinOneInstruction : Obligations.RunStopsWithinOneInstruction := by
  intro target s
  refine ⟨by simp [run, runLoop], rfl, fun _ => ?_⟩
  have hb : RunBound target s.cycles (run target s).2 := runBound_runLoop target ⟨le_rfl, by omega, by omega⟩
  have hends : ¬RunGoesOn target s.cycles (run target s).2 := runLoop_ends target le_rfl (by omega)
  have hp : (run target s).2.params = s.params := by
    obtain ⟨hframe, -, -⟩ := effect_runLoop target target s.cycles s
    rw [run, hframe]
  obtain ⟨-, hfree, hjam⟩ := hb
  rw [hp] at hjam
  exact ⟨fun hj => ⟨Nat.not_lt.1 fun hlt => hends ⟨hlt, hj⟩, hfree hj⟩, hjam⟩

end Sys2Proof.Machine

/-! ## 41_load_store_transfer.md: loads, stores and transfers -/

namespace Sys2Proof.Machine

/-- What an instruction's effect leaves, from `t` to `u`: the registers `r` and the status byte `p`, everything else as it was. -/
def Leaves (t u : State) (r : Byte × Byte × Byte × Byte) (p : Byte) : Prop := RegistersOnly t u ∧ u.regs = r ∧ u.p = p

theorem leaves_loadA (m : Byte) (t : State) :
    Leaves t (loadA m t) (m, t.x, t.y, t.sp) (packFlags (nzOf m t.flags)) :=
  ⟨rfl, rfl, setNZ_p_eq m (t.setA m)⟩

theorem leaves_loadX (m : Byte) (t : State) :
    Leaves t (loadX m t) (t.a, m, t.y, t.sp) (packFlags (nzOf m t.flags)) :=
  ⟨rfl, rfl, setNZ_p_eq m (t.setX m)⟩

theorem leaves_loadY (m : Byte) (t : State) :
    Leaves t (loadY m t) (t.a, t.x, m, t.sp) (packFlags (nzOf m t.flags)) :=
  ⟨rfl, rfl, setNZ_p_eq m (t.setY m)⟩

theorem leaves_loadAX (m : Byte) (t : State) :
    Leaves t (loadAX m t) (m, m, t.y, t.sp) (packFlags (nzOf m t.flags)) :=
  ⟨rfl, rfl, setNZ_p_eq m ((t.setA m).setX m)⟩

theorem leaves_setSP (v : Byte) (t : State) : Leaves t (t.setSP v) (t.a, t.x, t.y, v) t.p := ⟨rfl, rfl, rfl⟩

section

variable {cost : Nat} {s : State} {r : Byte × Byte × Byte × Byte} {p : Byte}

/-- R173: a read-kind instruction completes in its frame, with the registers and P that its effect leaves. -/
theorem readInstr_completes {o : ReadOperand} {effect : Byte → State → State}
    (h : Leaves (afterRead o s) (effect (byteOf o s) (afterRead o s)) r p) :
    ∃ t, readInstr cost o effect s = .next t ∧ ReadFrame cost o s t ∧ t.regs = r ∧ t.p = p := by
  obtain ⟨honly, hregs, hp⟩ := h
  exact ⟨_, readInstr_eq cost o effect s, readFrame_of honly, hregs, hp⟩

/-- R160: an instruction of one byte that makes no access completes likewise. -/
theorem impliedInstr_completes {effect : State → State} (h : Leaves (s.advance 1) (effect (s.advance 1)) r p) :
    ∃ t, impliedInstr cost effect s = .next t ∧ QuietFrame 1 cost s t ∧ t.regs = r ∧ t.p = p := by
  obtain ⟨honly, hregs, hp⟩ := h
  exact ⟨_, rfl, quietFrame_of honly, hregs, hp⟩

/-- R173: a store completes in its frame and writes no register and no flag; the value stored does not depend on PC. -/
theorem storeInstr_completes {m : MemOperand} {value : State → Byte} (hv : ∀ n, value (s.advance n) = value s) :
    ∃ t, storeInstr cost m value s = .next t ∧ StoreFrame cost m (value s) s t ∧ t.regs = s.regs ∧ t.p = s.p := by
  have hexec := storeInstr_eq cost m value s
  rw [hv] at hexec
  refine ⟨_, hexec, storeFrame_of cost m (value s) s, ?_, ?_⟩
  all_goals rw [write8_eq]; rfl

end

section

variable {v z : Byte} {w : Addr} {s : State}

/-- R201: every form of LDA is the read-kind instruction of its operand and its cycles that loads A. -/
theorem exec_of_mem_ldaForms {f : Instr × ReadOperand × Nat} (hf : f ∈ ldaForms v z w) :
    exec f.1 s = readInstr f.2.2 f.2.1 loadA s := by
  fin_cases hf <;> rfl

/-- R202: every form of LDX loads X likewise. -/
theorem exec_of_mem_ldxForms {f : Instr × ReadOperand × Nat} (hf : f ∈ ldxForms v z w) :
    exec f.1 s = readInstr f.2.2 f.2.1 loadX s := by
  fin_cases hf <;> rfl

/-- R203: every form of LDY loads Y likewise. -/
theorem exec_of_mem_ldyForms {f : Instr × ReadOperand × Nat} (hf : f ∈ ldyForms v z w) :
    exec f.1 s = readInstr f.2.2 f.2.1 loadY s := by
  fin_cases hf <;> rfl

/-- R376: every memory form of LAX loads A and X likewise. -/
theorem exec_of_mem_laxForms {f : Instr × ReadOperand × Nat} (hf : f ∈ laxForms z w) :
    exec f.1 s = readInstr f.2.2 f.2.1 loadAX s := by
  fin_cases hf <;> rfl

/-- R204: every form of STA is the store of A at its operand, in its cycles. -/
theorem exec_of_mem_staForms {f : Instr × MemOperand × Nat} (hf : f ∈ staForms z w) :
    exec f.1 s = storeInstr f.2.2 f.2.1 State.a s := by
  fin_cases hf <;> rfl

/-- R205: every form of STX stores X likewise. -/
theorem exec_of_mem_stxForms {f : Instr × MemOperand × Nat} (hf : f ∈ stxForms z w) :
    exec f.1 s = storeInstr f.2.2 f.2.1 State.x s := by
  fin_cases hf <;> rfl

/-- R206: every form of STY stores Y likewise. -/
theorem exec_of_mem_styForms {f : Instr × MemOperand × Nat} (hf : f ∈ styForms z w) :
    exec f.1 s = storeInstr f.2.2 f.2.1 State.y s := by
  fin_cases hf <;> rfl

/-- R375: every form of SAX stores A AND X likewise. -/
theorem exec_of_mem_saxForms {f : Instr × MemOperand × Nat} (hf : f ∈ saxForms z w) :
    exec f.1 s = storeInstr f.2.2 f.2.1 aAndX s := by
  fin_cases hf <;> rfl

end

/-- Settles O14: every listed form is a read-kind instruction, whose frame is that of `readInstr_completes`; what it leaves in the
registers and P is what its load leaves. -/
theorem loadsPutTheByteInTheRegister : Obligations.LoadsPutTheByteInTheRegister := by
  intro s v z w
  refine ⟨rfl, fun f hf => ?_, rfl, fun f hf => ?_, rfl, fun f hf => ?_, rfl, fun f hf => ?_⟩
  · rw [exec_of_mem_ldaForms hf]
    exact readInstr_completes (leaves_loadA _ _)
  · rw [exec_of_mem_ldxForms hf]
    exact readInstr_completes (leaves_loadX _ _)
  · rw [exec_of_mem_ldyForms hf]
    exact readInstr_completes (leaves_loadY _ _)
  · rw [exec_of_mem_laxForms hf]
    exact readInstr_completes (leaves_loadAX _ _)

/-- Settles O15: every listed form is a store of a value read from the registers (`storeInstr_completes`). -/
theorem storesWriteOneByte : Obligations.StoresWriteOneByte := by
  intro s z w
  refine ⟨rfl, fun f hf => ?_, rfl, fun f hf => ?_, rfl, fun f hf => ?_, rfl, fun f hf => ?_⟩
  · rw [exec_of_mem_staForms hf]
    exact storeInstr_completes fun _ => rfl
  · rw [exec_of_mem_stxForms hf]
    exact storeInstr_completes fun _ => rfl
  · rw [exec_of_mem_styForms hf]
    exact storeInstr_completes fun _ => rfl
  · rw [exec_of_mem_saxForms hf]
    exact storeInstr_completes fun _ => rfl

/-- Settles O16: each transfer is a load from a register, or for TXS a write of SP, in an instruction of one byte. -/
theorem transfersCopyOneRegister : Obligations.TransfersCopyOneRegister := by
  intro s
  exact ⟨rfl, impliedInstr_completes (leaves_loadX _ _), impliedInstr_completes (leaves_loadY _ _),
    impliedInstr_completes (leaves_loadA _ _), impliedInstr_completes (leaves_loadA _ _),
    impliedInstr_completes (leaves_loadX _ _), impliedInstr_completes (effect := fun t => t.setSP t.x) (leaves_setSP _ _)⟩

end Sys2Proof.Machine

/-! ## 42_stack.md: pushes and pulls -/

namespace Sys2Proof.Machine

/-- R12: a pull takes the byte one place above SP, and SP goes up to it. -/
theorem pull8_eq_stackByte (s : State) : pull8 s = (stackByte s 1, s.setSP (s.sp + 1)) := by
  rw [pull8_eq, stackByte_eq]
  rfl

theorem leaves_pullA (t : State) :
    Leaves t (pullA t) (stackByte t 1, t.x, t.y, t.sp + 1) (packFlags (nzOf (stackByte t 1) t.flags)) := by
  rw [pullA, pull8_eq_stackByte]
  exact ⟨rfl, rfl, setNZ_p_eq _ ((t.setSP (t.sp + 1)).setA (stackByte t 1))⟩

theorem leaves_pullP (t : State) :
    Leaves t (pullP t) (t.a, t.x, t.y, t.sp + 1) ((stackByte t 1 &&& 0xCF) ||| 0x20) := by
  rw [pullP, pull8_eq_stackByte]
  exact ⟨rfl, rfl, rfl⟩

/-- R12: a push stores its byte at the stack address and nowhere else; SP has no part in memory. -/
theorem storesAt_push8 (v : Byte) (s : State) : StoresAt (stackAddr s.sp) v s (push8 v s) := fun b =>
  (peek_congr rfl rfl b).trans (peek_write8 (stackAddr s.sp) v s b)

/-- R230, R231: an instruction of one byte that pushes a value completes, and changes but that stack byte only SP, PC and the cycles; the
value does not depend on PC. -/
theorem pushInstr_completes {cost : Nat} {value : State → Byte} {s : State} (hv : value (s.advance 1) = value s) :
    ∃ t, impliedInstr cost (fun u => push8 (value u) u) s = .next t ∧ t.regs = (s.a, s.x, s.y, s.sp - 1) ∧ t.p = s.p ∧
      t.pc = s.pc + 1 ∧ t.cycles = s.cycles + cost ∧ t.trace = s.trace ∧ t.draws = s.draws ∧
      StoresAt (stackAddr s.sp) (value s) s t ∧ KeepsBlock s t := by
  have hstore : StoresAt (stackAddr s.sp) (value s) s (push8 (value s) (s.advance 1)) :=
    storesAt_push8 (value s) (s.advance 1)
  refine ⟨(push8 (value s) (s.advance 1)).tick cost, by rw [impliedInstr, hv], ?_⟩
  rw [push8_eq] at hstore ⊢
  exact ⟨rfl, rfl, rfl, rfl, rfl, rfl, hstore, rfl, rfl, rfl, rfl, rfl, rfl, rfl⟩

/-- Settles O17: PHA pushes A, and PHP the image of P with B and R set (`pushInstr_completes`). -/
theorem pushesWriteTheStackByte : Obligations.PushesWriteTheStackByte := by
  intro s
  exact ⟨rfl, pushInstr_completes (value := State.a) rfl, pushInstr_completes (value := State.breakImage) rfl⟩

/-- Settles O18: both are instructions of one byte that change registers and P only: the pull itself makes no event. -/
theorem pullsReadTheStackByte : Obligations.PullsReadTheStackByte := by
  intro s
  exact ⟨rfl, impliedInstr_completes (leaves_pullA _), impliedInstr_completes (leaves_pullP _)⟩

end Sys2Proof.Machine

/-! ## 43_alu.md: the adder -/

namespace Sys2Proof.Machine

/-- R250: the mask $80 keeps bit 7 alone. -/
theorem and_signBit_bne_zero (v : Byte) : ((v &&& 0x80) != 0x00) = v.getLsbD 7 := by revert v; decide

theorem addResult_toNat (a b : Byte) (c : Bool) : (addResult a b c).toNat = addSum a b c % 256 := BitVec.toNat_ofNat ..

/-- R250: `ovf` in bits: bit 7 of each summand differs from bit 7 of the result. -/
theorem addOverflow_eq_bits (a b : Byte) (c : Bool) :
    addOverflow a b c =
      ((a.getLsbD 7 ^^ (addResult a b c).getLsbD 7) && (b.getLsbD 7 ^^ (addResult a b c).getLsbD 7)) := by
  rw [addOverflow, and_signBit_bne_zero, BitVec.getLsbD_and, BitVec.getLsbD_xor, BitVec.getLsbD_xor]

/-- R250: `ovf` in numbers: bit 7 says which bytes stand for themselves less 256 in the signed sum, so the two conditions are one about the
unsigned values of the summands and the carry. -/
theorem addOverflow_eq_signed (a b : Byte) (c : Bool) :
    addOverflow a b c = decide (signedSum a b c < -128 ∨ 127 < signedSum a b c) := by
  have hc := c.toNat_le
  rw [addOverflow_eq_bits, bit7_eq, bit7_eq, bit7_eq, addResult_toNat, addSum, signedSum, BitVec.toInt_eq_toNat_cond,
    BitVec.toInt_eq_toNat_cond, Bool.eq_iff_iff]
  simp only [Bool.and_eq_true, bne_iff_ne, ne_eq, decide_eq_decide, decide_eq_true_eq]
  omega

/-- Settles O13: result and carry are those of the sum by definition, and `ovf` is `addOverflow_eq_signed`. -/
theorem adderAgreesWithTheIntegers : Obligations.AdderAgreesWithTheIntegers := by
  intro a b c
  refine ⟨addResult_toNat a b c, rfl, ?_, addOverflow_eq_signed a b c⟩
  rw [addOverflow, bne, beq_eq_decide, ← decide_not]

/-- R254: the complement of a byte in numbers. -/
theorem xor_ff_toNat (m : Byte) : (m ^^^ 0xFF).toNat = 255 - m.toNat := by revert m; decide

theorem xor_ff_toInt (m : Byte) : (m ^^^ 0xFF).toInt = -m.toInt - 1 := by revert m; decide

/-- R254: adding the complement gives the unsigned difference, 256 too large. -/
theorem addSum_xor_ff (a m : Byte) (c : Bool) : (addSum a (m ^^^ 0xFF) c : Int) = unsignedDiff a m c + 256 := by
  rw [unsignedDiff, addSum, xor_ff_toNat]
  omega

/-- R254: adding the complement gives the signed difference. -/
theorem signedSum_xor_ff (a m : Byte) (c : Bool) : signedSum a (m ^^^ 0xFF) c = signedDiff a m c := by
  rw [signedDiff, signedSum, xor_ff_toInt]
  omega

theorem addResult_xor_ff (a m : Byte) (c : Bool) : addResult a (m ^^^ 0xFF) c = BitVec.ofInt 8 (unsignedDiff a m c) := by
  have h := addSum_xor_ff a m c
  apply BitVec.eq_of_toNat_eq
  rw [addResult_toNat, BitVec.toNat_ofInt]
  simp only [Nat.reducePow]
  omega

theorem addFlags_xor_ff (a m : Byte) (c : Bool) (f : Flags) : addFlags a (m ^^^ 0xFF) c f = subFlags a m c f := by
  have h := addSum_xor_ff a m c
  rw [addSum] at h
  simp only [addFlags, subFlags, signedSum_xor_ff, Flags.mk.injEq, decide_eq_decide, true_and]
  refine ⟨?_, ?_, ?_⟩ <;> omega

/-- R262 to R267: one more mod 256, as a number. -/
theorem add_one_eq_ofNat (v : Byte) : v + 1 = BitVec.ofNat 8 (v.toNat + 1) := by revert v; decide

/-- R262 to R267: one less mod 256, as a number. -/
theorem sub_one_eq_ofNat (v : Byte) : v - 1 = BitVec.ofNat 8 (v.toNat + 255) := by revert v; decide

end Sys2Proof.Machine

/-! ## 43_alu.md: arithmetic, logic, compare and increment -/

namespace Sys2Proof.Machine

/-- R250: the flags that the adder and `setNZ` leave, in numbers. -/
theorem nzOf_addResult (a b : Byte) (c : Bool) (f : Flags) :
    nzOf (addResult a b c) { f with c := addCarry a b c, v := addOverflow a b c } = addFlags a b c f := by
  rw [nzOf, addResult_toNat, addOverflow_eq_signed]
  rfl

theorem leaves_addToA (b : Byte) (c : Bool) (t : State) :
    Leaves t (addToA b c t) (addResult t.a b c, t.x, t.y, t.sp) (packFlags (addFlags t.a b c t.flags)) := by
  refine ⟨rfl, rfl, ?_⟩
  rw [addToA, setNZ_p_eq, State.flags_setV, State.flags_setC, ← nzOf_addResult]
  rfl

/-- R254: SBC adds the complement, which is to subtract. -/
theorem leaves_sbc (m : Byte) (t : State) :
    Leaves t (sbc m t) (BitVec.ofInt 8 (unsignedDiff t.a m t.flags.c), t.x, t.y, t.sp)
      (packFlags (subFlags t.a m t.flags.c t.flags)) := by
  rw [← addResult_xor_ff, ← addFlags_xor_ff]
  exact leaves_addToA (m ^^^ 0xFF) t.flags.c t

theorem leaves_compare (r m : Byte) (t : State) :
    Leaves t (compare r m t) t.regs (packFlags (compareFlags r m t.flags)) :=
  ⟨rfl, rfl, compare_p_eq r m t⟩

/-- R261: bit 6 of a byte, as a number. -/
theorem bit6_eq (v : Byte) : v.getLsbD 6 = decide (v.toNat / 64 % 2 = 1) := by revert v; decide

theorem leaves_bitTest (m : Byte) (t : State) :
    Leaves t (bitTest m t) t.regs
      (packFlags { t.flags with
        z := decide ((t.a &&& m).toNat = 0)
        n := decide (128 ≤ m.toNat)
        v := decide (m.toNat / 64 % 2 = 1) }) := by
  refine ⟨rfl, rfl, ?_⟩
  rw [bitTest, State.setFlags_p, beq_zero_eq, bit7_eq, bit6_eq]

theorem leaves_afterStep (v : Byte) (c : Bool) (t : State) :
    Leaves t (afterStep v c t) t.regs (packFlags (nzOf v t.flags)) :=
  ⟨rfl, rfl, setNZ_p_eq v t⟩

/-- A bus write changes RAM and the trace only. -/
theorem write8_frame (a : Addr) (v : Byte) (s : State) :
    write8 a v s = { s with ram := (write8 a v s).ram, trace := (write8 a v s).trace } := by
  rw [write8_eq]

/-- R173: the state after the read and the write of a read-modify-write instruction: `afterRead`, but for RAM and the trace. -/
def afterRmw (m : MemOperand) (v : Byte) (s : State) : State :=
  { afterRead (.mem m) s with
    ram := (write8 (eaOf m s) v (afterRead (.mem m) s)).ram
    trace := (write8 (eaOf m s) v (afterRead (.mem m) s)).trace }

theorem write8_afterRead (m : MemOperand) (v : Byte) (s : State) :
    write8 (eaOf m s) v (afterRead (.mem m) s) = afterRmw m v s :=
  write8_frame (eaOf m s) v (afterRead (.mem m) s)

section

variable {cost : Nat} {m : MemOperand} {f : Byte → State → Byte × Bool} {s : State} {v : Byte} {c : Bool}

/-- R173: a read-modify-write instruction that computes the byte `v` and the carry `c` completes in its frame, with the registers and P that
its effect after the write leaves. -/
theorem rmwInstr_completes {after : Byte → Bool → State → State} {r : Byte × Byte × Byte × Byte} {p : Byte}
    (hf : f (byteOf (.mem m) s) (afterRead (.mem m) s) = (v, c))
    (h : Leaves (afterRmw m v s) (after v c (afterRmw m v s)) r p) :
    ∃ t, rmwInstr cost m f after s = .next t ∧ RmwFrame cost m v s t ∧ t.regs = r ∧ t.p = p := by
  have hexec := rmwInstr_eq cost m f after s
  rw [hf, write8_afterRead] at hexec
  obtain ⟨honly, hregs, hp⟩ := h
  exact ⟨_, hexec, rmwFrame_of (by rwa [write8_afterRead]), hregs, hp⟩

/-- R262, R263: a step of a byte of memory writes no register and sets N and Z from the byte written. -/
theorem stepMemory_completes (hf : f (byteOf (.mem m) s) (afterRead (.mem m) s) = (v, c)) :
    ∃ t, rmwInstr cost m f afterStep s = .next t ∧ t.regs = s.regs ∧ RmwFrame cost m v s t ∧
      t.p = packFlags (nzOf v s.flags) := by
  obtain ⟨t, hexec, hframe, hregs, hp⟩ := rmwInstr_completes hf (leaves_afterStep v c (afterRmw m v s))
  exact ⟨t, hexec, hregs, hframe, hp⟩

end

section

variable {v z : Byte} {w : Addr} {s : State}

/-- R253: every form of ADC is the read-kind instruction of its operand and its cycles that adds to A. -/
theorem exec_of_mem_adcForms {f : Instr × ReadOperand × Nat} (hf : f ∈ adcForms v z w) :
    exec f.1 s = readInstr f.2.2 f.2.1 adc s := by
  fin_cases hf <;> rfl

/-- R254, R390: every form of SBC, $EB among them, subtracts from A likewise. -/
theorem exec_of_mem_sbcForms {f : Instr × ReadOperand × Nat} (hf : f ∈ sbcForms v z w) :
    exec f.1 s = readInstr f.2.2 f.2.1 sbc s := by
  fin_cases hf <;> rfl

/-- R255: every form of AND masks A likewise. -/
theorem exec_of_mem_andForms {f : Instr × ReadOperand × Nat} (hf : f ∈ andForms v z w) :
    exec f.1 s = readInstr f.2.2 f.2.1 andA s := by
  fin_cases hf <;> rfl

/-- R256: every form of ORA sets bits of A likewise. -/
theorem exec_of_mem_oraForms {f : Instr × ReadOperand × Nat} (hf : f ∈ oraForms v z w) :
    exec f.1 s = readInstr f.2.2 f.2.1 oraA s := by
  fin_cases hf <;> rfl

/-- R257: every form of EOR turns over bits of A likewise. -/
theorem exec_of_mem_eorForms {f : Instr × ReadOperand × Nat} (hf : f ∈ eorForms v z w) :
    exec f.1 s = readInstr f.2.2 f.2.1 eorA s := by
  fin_cases hf <;> rfl

/-- R258: every form of CMP compares A likewise. -/
theorem exec_of_mem_cmpForms {f : Instr × ReadOperand × Nat} (hf : f ∈ cmpForms v z w) :
    exec f.1 s = readInstr f.2.2 f.2.1 cmpA s := by
  fin_cases hf <;> rfl

/-- R259: every form of CPX compares X likewise. -/
theorem exec_of_mem_cpxForms {f : Instr × ReadOperand × Nat} (hf : f ∈ cpxForms v z w) :
    exec f.1 s = readInstr f.2.2 f.2.1 cmpX s := by
  fin_cases hf <;> rfl

/-- R260: every form of CPY compares Y likewise. -/
theorem exec_of_mem_cpyForms {f : Instr × ReadOperand × Nat} (hf : f ∈ cpyForms v z w) :
    exec f.1 s = readInstr f.2.2 f.2.1 cmpY s := by
  fin_cases hf <;> rfl

/-- R261: every form of BIT tests bits likewise. -/
theorem exec_of_mem_bitForms {f : Instr × ReadOperand × Nat} (hf : f ∈ bitForms z w) :
    exec f.1 s = readInstr f.2.2 f.2.1 bitTest s := by
  fin_cases hf <;> rfl

/-- R262: every form of INC is the read-modify-write instruction of its operand and its cycles that adds one. -/
theorem exec_of_mem_incForms {f : Instr × MemOperand × Nat} (hf : f ∈ incForms z w) :
    exec f.1 s = rmwInstr f.2.2 f.2.1 incByte afterStep s := by
  fin_cases hf <;> rfl

/-- R263: every form of DEC subtracts one likewise. -/
theorem exec_of_mem_decForms {f : Instr × MemOperand × Nat} (hf : f ∈ decForms z w) :
    exec f.1 s = rmwInstr f.2.2 f.2.1 decByte afterStep s := by
  fin_cases hf <;> rfl

end

/-- Settles O19: every form is a read-kind instruction (`readInstr_completes`), and what the adder leaves is `leaves_addToA`. -/
theorem addWithCarryAddsBinary : Obligations.AddWithCarryAddsBinary := by
  intro s v z w
  refine ⟨rfl, fun f hf => ?_⟩
  rw [exec_of_mem_adcForms hf]
  exact readInstr_completes (leaves_addToA _ _ _)

/-- Settles O20: every form is a read-kind instruction, and the complement's addition is the subtraction (`leaves_sbc`). -/
theorem subtractWithBorrowSubtractsBinary : Obligations.SubtractWithBorrowSubtractsBinary := by
  intro s v z w
  refine ⟨rfl, fun f hf => ?_⟩
  rw [exec_of_mem_sbcForms hf]
  exact readInstr_completes (leaves_sbc _ _)

/-- Settles O21: every form is a read-kind instruction that loads A with the bitwise result. -/
theorem logicCombinesBitwise : Obligations.LogicCombinesBitwise := by
  intro s v z w
  refine ⟨rfl, fun f hf => ?_, rfl, fun f hf => ?_, rfl, fun f hf => ?_⟩
  · rw [exec_of_mem_andForms hf]
    exact readInstr_completes (leaves_loadA _ _)
  · rw [exec_of_mem_oraForms hf]
    exact readInstr_completes (leaves_loadA _ _)
  · rw [exec_of_mem_eorForms hf]
    exact readInstr_completes (leaves_loadA _ _)

/-- Settles O22: every form is a read-kind instruction whose effect, a compare or a bit test, writes flags only. -/
theorem comparesSetFlagsOnly : Obligations.ComparesSetFlagsOnly := by
  intro s v z w
  refine ⟨rfl, fun f hf => ?_, rfl, fun f hf => ?_, rfl, fun f hf => ?_, rfl, fun f hf => ?_⟩
  · rw [exec_of_mem_cmpForms hf]
    exact readInstr_completes (leaves_compare _ _ _)
  · rw [exec_of_mem_cpxForms hf]
    exact readInstr_completes (leaves_compare _ _ _)
  · rw [exec_of_mem_cpyForms hf]
    exact readInstr_completes (leaves_compare _ _ _)
  · rw [exec_of_mem_bitForms hf]
    exact readInstr_completes (leaves_bitTest _ _)

/-- Settles O23: every form is a read-modify-write instruction that steps the byte by one (`stepMemory_completes`). -/
theorem incrementAndDecrementMemory : Obligations.IncrementAndDecrementMemory := by
  intro s z w
  refine ⟨rfl, fun f hf => ?_, rfl, fun f hf => ?_⟩
  · rw [exec_of_mem_incForms hf]
    exact stepMemory_completes (by rw [incByte, add_one_eq_ofNat])
  · rw [exec_of_mem_decForms hf]
    exact stepMemory_completes (by rw [decByte, sub_one_eq_ofNat])

/-- Settles O24: each is a load of X or Y with the register's own value, one more or one less, in an instruction of one byte. -/
theorem incrementAndDecrementRegisters : Obligations.IncrementAndDecrementRegisters := by
  intro s
  simp only [← add_one_eq_ofNat, ← sub_one_eq_ofNat]
  exact ⟨rfl, impliedInstr_completes (leaves_loadX _ _), impliedInstr_completes (leaves_loadY _ _),
    impliedInstr_completes (leaves_loadX _ _), impliedInstr_completes (leaves_loadY _ _)⟩

end Sys2Proof.Machine

/-! ## 43_alu.md: the D flag -/

namespace Sys2Proof.Machine

/-- R252: D lies in bit 3 of P, the bit that `flipD` turns over. -/
theorem flipD_flags (s : State) : (flipD s).flags = { s.flags with d := !s.flags.d } := by
  have h : ∀ p : Byte, flagsOf (p ^^^ 0x08) = { flagsOf p with d := !(flagsOf p).d } := by decide
  exact h s.p

theorem packFlags_flipD (f : Flags) : packFlags { f with d := !f.d } = packFlags f ^^^ 0x08 := by
  obtain ⟨n, v, d, i, z, c⟩ := f
  cases n <;> cases v <;> cases d <;> cases i <;> cases z <;> cases c <;> decide

theorem flipD_n (s : State) : (flipD s).flags.n = s.flags.n := by rw [flipD_flags]

theorem flipD_v (s : State) : (flipD s).flags.v = s.flags.v := by rw [flipD_flags]

theorem flipD_z (s : State) : (flipD s).flags.z = s.flags.z := by rw [flipD_flags]

theorem flipD_c (s : State) : (flipD s).flags.c = s.flags.c := by rw [flipD_flags]

/-- R252: an effect that does the same whatever D is, and leaves D as it was. -/
def IgnoresD (f : State → State) : Prop := ∀ s : State, f (flipD s) = flipD (f s)

/-- R252: rewriting the flags by a function that neither looks at D nor changes it. -/
theorem ignoresD_setFlags {g : Flags → Flags} (hg : ∀ f, g { f with d := !f.d } = { g f with d := !(g f).d }) :
    IgnoresD (fun s => s.setFlags (g s.flags)) := by
  intro s
  simp only [flipD_flags, hg, State.setFlags, packFlags_flipD]
  rfl

theorem ignoresD_setNZ (v : Byte) : IgnoresD (setNZ v) :=
  ignoresD_setFlags (g := fun f => { f with n := v.getLsbD 7, z := v == 0x00 }) fun _ => rfl

theorem ignoresD_setC (b : Bool) : IgnoresD (setC b) := ignoresD_setFlags (g := fun f => { f with c := b }) fun _ => rfl

theorem ignoresD_setV (b : Bool) : IgnoresD (setV b) := ignoresD_setFlags (g := fun f => { f with v := b }) fun _ => rfl

theorem ignoresD_setI (b : Bool) : IgnoresD (setI b) := ignoresD_setFlags (g := fun f => { f with i := b }) fun _ => rfl

theorem ignoresD_compare (r m : Byte) : IgnoresD (compare r m) :=
  ignoresD_setFlags (g := fun f => { f with c := decide (m ≤ r), z := r == m, n := (r - m).getLsbD 7 }) fun _ => rfl

theorem ignoresD_bitTest (m : Byte) : IgnoresD (bitTest m) := fun s =>
  ignoresD_setFlags (g := fun f => { f with z := (s.a &&& m) == 0x00, n := m.getLsbD 7, v := m.getLsbD 6 }) (fun _ => rfl) s

theorem ignoresD_loadA (m : Byte) : IgnoresD (loadA m) := fun s => ignoresD_setNZ m (s.setA m)

theorem ignoresD_loadX (m : Byte) : IgnoresD (loadX m) := fun s => ignoresD_setNZ m (s.setX m)

theorem ignoresD_loadY (m : Byte) : IgnoresD (loadY m) := fun s => ignoresD_setNZ m (s.setY m)

theorem ignoresD_loadAX (m : Byte) : IgnoresD (loadAX m) := fun s => ignoresD_setNZ m ((s.setA m).setX m)

theorem ignoresD_loadAXMagic (m : Byte) : IgnoresD (loadAXMagic m) := fun s =>
  ignoresD_loadAX ((s.a ||| s.params.lxaMagic) &&& m) s

theorem ignoresD_andA (m : Byte) : IgnoresD (andA m) := fun s => ignoresD_loadA (s.a &&& m) s

theorem ignoresD_oraA (m : Byte) : IgnoresD (oraA m) := fun s => ignoresD_loadA (s.a ||| m) s

theorem ignoresD_eorA (m : Byte) : IgnoresD (eorA m) := fun s => ignoresD_loadA (s.a ^^^ m) s

theorem ignoresD_cmpA (m : Byte) : IgnoresD (cmpA m) := fun s => ignoresD_compare s.a m s

theorem ignoresD_cmpX (m : Byte) : IgnoresD (cmpX m) := fun s => ignoresD_compare s.x m s

theorem ignoresD_cmpY (m : Byte) : IgnoresD (cmpY m) := fun s => ignoresD_compare s.y m s

theorem ignoresD_setShift (v : Byte) (c : Bool) : IgnoresD (setShift v c) := by
  intro s
  rw [setShift, ignoresD_setC, ignoresD_setNZ, setShift]

theorem ignoresD_addToA (b : Byte) (c : Bool) : IgnoresD (addToA b c) := by
  intro s
  have hA : ({ flipD s with a := addResult (flipD s).a b c } : State) = flipD (s.setA (addResult s.a b c)) := rfl
  rw [addToA, hA, ignoresD_setC, ignoresD_setV, ignoresD_setNZ]
  rfl

/-- R252, R253: ADC adds in binary whatever D is. -/
theorem ignoresD_adc (m : Byte) : IgnoresD (adc m) := by
  intro s
  rw [adc, flipD_c, ignoresD_addToA, adc]

/-- R252, R254: SBC subtracts in binary whatever D is. -/
theorem ignoresD_sbc (m : Byte) : IgnoresD (sbc m) := by
  intro s
  rw [sbc, flipD_c, ignoresD_addToA, sbc]

theorem ignoresD_anc (m : Byte) : IgnoresD (anc m) := by
  intro s
  rw [anc, ignoresD_andA, ignoresD_setC]
  rfl

theorem ignoresD_alr (m : Byte) : IgnoresD (alr m) := fun s =>
  ignoresD_setShift (lsr8 (s.a &&& m)).1 (lsr8 (s.a &&& m)).2 (s.setA (lsr8 (s.a &&& m)).1)

theorem ignoresD_arr (m : Byte) : IgnoresD (arr m) := by
  intro s
  simp only [arr, flipD_c, ignoresD_loadA _ s, ignoresD_setC _ (loadA _ s), ignoresD_setV _ (setC _ _)]
  rfl

theorem ignoresD_xaa (m : Byte) : IgnoresD (xaa m) := fun s =>
  ignoresD_loadA ((s.a ||| s.params.xaaMagic) &&& s.x &&& m) s

theorem ignoresD_axs (m : Byte) : IgnoresD (axs m) := by
  intro s
  rw [axs, ignoresD_setC, ignoresD_loadX]
  rfl

theorem ignoresD_las (m : Byte) : IgnoresD (las m) := fun s =>
  ignoresD_loadAX (m &&& s.sp) (s.setSP (m &&& s.sp))

theorem ignoresD_afterStep (v : Byte) (c : Bool) : IgnoresD (afterStep v c) := ignoresD_setNZ v

theorem ignoresD_afterSlo (v : Byte) (c : Bool) : IgnoresD (afterSlo v c) := by
  intro s
  rw [afterSlo, ignoresD_setC, ignoresD_oraA, afterSlo]

theorem ignoresD_afterRla (v : Byte) (c : Bool) : IgnoresD (afterRla v c) := by
  intro s
  rw [afterRla, ignoresD_setC, ignoresD_andA, afterRla]

theorem ignoresD_afterSre (v : Byte) (c : Bool) : IgnoresD (afterSre v c) := by
  intro s
  rw [afterSre, ignoresD_setC, ignoresD_eorA, afterSre]

theorem ignoresD_afterRra (v : Byte) (c : Bool) : IgnoresD (afterRra v c) := ignoresD_addToA v c

theorem ignoresD_afterDcp (v : Byte) (c : Bool) : IgnoresD (afterDcp v c) := ignoresD_cmpA v

theorem ignoresD_afterIsb (v : Byte) (c : Bool) : IgnoresD (afterIsb v c) := ignoresD_sbc v

theorem rolOf_flipD (m : Byte) (s : State) : rolOf m (flipD s) = rolOf m s := by rw [rolOf, flipD_c, rolOf]

theorem rorOf_flipD (m : Byte) (s : State) : rorOf m (flipD s) = rorOf m s := by rw [rorOf, flipD_c, rorOf]

theorem busByte_flipD (a : Addr) (s : State) : busByte a (flipD s) = busByte a s :=
  busByte_congr (s := s) (t := flipD s) rfl rfl rfl a

theorem read8_flipD (a : Addr) (s : State) : read8 a (flipD s) = ((read8 a s).1, flipD (read8 a s).2) := by
  rw [read8_eq, read8_eq a s, busByte_flipD]
  rfl

theorem ignoresD_write8 (a : Addr) (v : Byte) : IgnoresD (write8 a v) := by
  intro s
  rw [write8_eq, write8_eq a v s]
  rfl

theorem ignoresD_push16 (w : Addr) : IgnoresD (push16 w) := by
  intro s
  rw [push16_eq, push16_eq w s]
  rfl

theorem ignoresD_pushA : IgnoresD (fun t => push8 t.a t) := by
  intro s
  simp only [push8_eq]
  rfl

theorem ignoresD_pullA : IgnoresD pullA := by
  intro s
  rw [pullA, pullA, pull8_eq, pull8_eq s]
  exact ignoresD_loadA _ (s.setSP (s.sp + 1))

theorem ignoresD_returnToCaller : IgnoresD returnToCaller := by
  intro s
  rw [returnToCaller, returnToCaller, pull16_eq, pull16_eq s]
  rfl

theorem advance_flipD (n : Nat) (s : State) : (flipD s).advance n = flipD (s.advance n) := rfl

theorem jumpTarget_flipD (w : Addr) (s : State) :
    jumpTarget w (flipD s) = ((jumpTarget w s).1, flipD (jumpTarget w s).2) := by
  simp only [jumpTarget, read8_flipD]

theorem eaOf_flipD (m : MemOperand) (s : State) : eaOf m (flipD s) = eaOf m s := by
  rw [eaOf, eaOf, resolve_congr m (s := s) (t := flipD s) rfl rfl rfl]

theorem byteOf_flipD (o : ReadOperand) (s : State) : byteOf o (flipD s) = byteOf o s := by
  cases o with
  | imm v => rfl
  | mem m => rw [byteOf_mem, byteOf_mem, eaOf_flipD, busByte_flipD]

theorem crossPenalty_flipD (o : ReadOperand) (s : State) : crossPenalty o (flipD s) = crossPenalty o s := by
  cases o with
  | imm v => rfl
  | mem m => rw [crossPenalty_eq, crossPenalty_eq, resolve_congr m (s := s) (t := flipD s) rfl rfl rfl]

theorem operandEvents_flipD (o : ReadOperand) (s : State) : operandEvents o (flipD s) = operandEvents o s := by
  cases o with
  | imm v => rfl
  | mem m =>
    simp only [operandEvents, eaOf_flipD, byteOf_flipD]
    rfl

theorem ignoresD_afterRead (o : ReadOperand) : IgnoresD (afterRead o) := by
  intro s
  rw [afterRead, operandEvents_flipD]
  rfl

/-- What a meaning answers, with D the other way. -/
def flipDNext : Result → Result
  | .next t => .next (flipD t)
  | .fault r => .fault r
  | .refused r => .refused r

section

variable {cost : Nat} {s : State}

theorem readInstr_flipD {o : ReadOperand} {f : Byte → State → State} (hf : ∀ b, IgnoresD (f b)) :
    readInstr cost o f (flipD s) = flipDNext (readInstr cost o f s) := by
  rw [readInstr_eq, readInstr_eq, byteOf_flipD, ignoresD_afterRead, crossPenalty_flipD, hf]
  rfl

theorem storeInstr_flipD {m : MemOperand} {value : State → Byte} (hv : ∀ t, value (flipD t) = value t) :
    storeInstr cost m value (flipD s) = flipDNext (storeInstr cost m value s) := by
  rw [storeInstr_eq, storeInstr_eq, eaOf_flipD, advance_flipD, hv, ignoresD_write8]
  rfl

theorem rmwInstr_flipD {m : MemOperand} {f : Byte → State → Byte × Bool} {after : Byte → Bool → State → State}
    (hf : ∀ b t, f b (flipD t) = f b t) (hafter : ∀ v c, IgnoresD (after v c)) :
    rmwInstr cost m f after (flipD s) = flipDNext (rmwInstr cost m f after s) := by
  rw [rmwInstr_eq, rmwInstr_eq, byteOf_flipD, ignoresD_afterRead, hf, eaOf_flipD, ignoresD_write8, hafter]
  rfl

theorem impliedInstr_flipD {f : State → State} (hf : IgnoresD f) :
    impliedInstr cost f (flipD s) = flipDNext (impliedInstr cost f s) := by
  rw [impliedInstr, advance_flipD, hf, impliedInstr]
  rfl

theorem accInstr_flipD {f : Byte → State → Byte × Bool} (hf : ∀ m t, f m (flipD t) = f m t) :
    accInstr f (flipD s) = flipDNext (accInstr f s) := by
  refine impliedInstr_flipD fun t => ?_
  have ha : (flipD t).a = t.a := rfl
  rw [ha, hf]
  exact ignoresD_setShift _ _ (t.setA (f t.a t).1)

theorem shInstr_flipD {m : MemOperand} {value : State → Byte} {f : State → State}
    (hv : ∀ t, value (flipD t) = value t) (hf : IgnoresD f) :
    shInstr cost m value f (flipD s) = flipDNext (shInstr cost m value f s) := by
  have hsh : ∀ u r, IgnoresD (shStore u r) := fun u r t => ignoresD_write8 _ _ t
  rw [shInstr_eq, shInstr_eq, resolve_congr m (s := s) (t := flipD s) rfl rfl rfl, advance_flipD, hv, hf, hsh]
  rfl

theorem branchInstr_flipD {b b' : Bool} (o : Byte) (hb : b' = b) :
    branchInstr b' o (flipD s) = flipDNext (branchInstr b o s) := by
  subst hb
  cases b' <;> rfl

theorem execJmpInd_flipD (w : Addr) : execJmpInd w (flipD s) = flipDNext (execJmpInd w s) := by
  simp only [execJmpInd, advance_flipD, jumpTarget_flipD]
  rfl

theorem execJsrAbs_flipD (w : Addr) : execJsrAbs w (flipD s) = flipDNext (execJsrAbs w s) := by
  simp only [execJsrAbs, advance_flipD, ignoresD_push16 _ (s.advance 3)]
  rfl

end

/-- R252, R130, R40: but for the six instructions that push, pull or write D, an instruction does the same whatever D is: case by case along
the shapes of the meanings. -/
theorem exec_flipD {i : Instr} (hi : i ∉ [Instr.php, .brk, .plp, .rti, .cld, .sed]) (s : State) :
    exec i (flipD s) = flipDNext (exec i s) := by
  cases i <;> simp only [exec]
  case php | brk | plp | rti | cld | sed => exact absurd (by decide) hi
  case adcIzx | adcZp | adcImm | adcAbs | adcIzy | adcZpx | adcAbsy | adcAbsx => exact readInstr_flipD ignoresD_adc
  case sbcIzx | sbcZp | sbcImmE9 | sbcImmEB | sbcAbs | sbcIzy | sbcZpx | sbcAbsy | sbcAbsx =>
    exact readInstr_flipD ignoresD_sbc
  case andIzx | andZp | andImm | andAbs | andIzy | andZpx | andAbsy | andAbsx => exact readInstr_flipD ignoresD_andA
  case oraIzx | oraZp | oraImm | oraAbs | oraIzy | oraZpx | oraAbsy | oraAbsx => exact readInstr_flipD ignoresD_oraA
  case eorIzx | eorZp | eorImm | eorAbs | eorIzy | eorZpx | eorAbsy | eorAbsx => exact readInstr_flipD ignoresD_eorA
  case cmpIzx | cmpZp | cmpImm | cmpAbs | cmpIzy | cmpZpx | cmpAbsy | cmpAbsx => exact readInstr_flipD ignoresD_cmpA
  case cpxImm | cpxZp | cpxAbs => exact readInstr_flipD ignoresD_cmpX
  case cpyImm | cpyZp | cpyAbs => exact readInstr_flipD ignoresD_cmpY
  case bitZp | bitAbs => exact readInstr_flipD ignoresD_bitTest
  case ldaIzx | ldaZp | ldaImm | ldaAbs | ldaIzy | ldaZpx | ldaAbsy | ldaAbsx => exact readInstr_flipD ignoresD_loadA
  case ldxImm | ldxZp | ldxAbs | ldxZpy | ldxAbsy => exact readInstr_flipD ignoresD_loadX
  case ldyImm | ldyZp | ldyAbs | ldyZpx | ldyAbsx => exact readInstr_flipD ignoresD_loadY
  case laxIzx | laxZp | laxAbs | laxIzy | laxZpy | laxAbsy => exact readInstr_flipD ignoresD_loadAX
  case laxImm => exact readInstr_flipD ignoresD_loadAXMagic
  case lasAbsy => exact readInstr_flipD ignoresD_las
  case ancImm0B | ancImm2B => exact readInstr_flipD ignoresD_anc
  case alrImm => exact readInstr_flipD ignoresD_alr
  case arrImm => exact readInstr_flipD ignoresD_arr
  case xaaImm => exact readInstr_flipD ignoresD_xaa
  case axsImm => exact readInstr_flipD ignoresD_axs
  case nopZp04 | nopAbs | nopZpx14 | nopAbsx1C | nopZpx34 | nopAbsx3C | nopZp44 | nopZpx54 | nopAbsx5C | nopZp64 |
      nopZpx74 | nopAbsx7C | nopImm80 | nopImm82 | nopImm89 | nopImmC2 | nopZpxD4 | nopAbsxDC | nopImmE2 | nopZpxF4 |
      nopAbsxFC =>
    exact readInstr_flipD fun _ _ => rfl
  case staIzx | saxIzx | styZp | staZp | stxZp | saxZp | styAbs | staAbs | stxAbs | saxAbs | staIzy | styZpx | staZpx |
      stxZpy | saxZpy | staAbsy | staAbsx =>
    exact storeInstr_flipD fun _ => rfl
  case aslZp | aslAbs | aslZpx | aslAbsx | lsrZp | lsrAbs | lsrZpx | lsrAbsx =>
    exact rmwInstr_flipD (fun _ _ => rfl) ignoresD_setShift
  case rolZp | rolAbs | rolZpx | rolAbsx => exact rmwInstr_flipD rolOf_flipD ignoresD_setShift
  case rorZp | rorAbs | rorZpx | rorAbsx => exact rmwInstr_flipD rorOf_flipD ignoresD_setShift
  case incZp | incAbs | incZpx | incAbsx | decZp | decAbs | decZpx | decAbsx =>
    exact rmwInstr_flipD (fun _ _ => rfl) ignoresD_afterStep
  case sloIzx | sloZp | sloAbs | sloIzy | sloZpx | sloAbsy | sloAbsx =>
    exact rmwInstr_flipD (fun _ _ => rfl) ignoresD_afterSlo
  case rlaIzx | rlaZp | rlaAbs | rlaIzy | rlaZpx | rlaAbsy | rlaAbsx => exact rmwInstr_flipD rolOf_flipD ignoresD_afterRla
  case sreIzx | sreZp | sreAbs | sreIzy | sreZpx | sreAbsy | sreAbsx =>
    exact rmwInstr_flipD (fun _ _ => rfl) ignoresD_afterSre
  case rraIzx | rraZp | rraAbs | rraIzy | rraZpx | rraAbsy | rraAbsx => exact rmwInstr_flipD rorOf_flipD ignoresD_afterRra
  case dcpIzx | dcpZp | dcpAbs | dcpIzy | dcpZpx | dcpAbsy | dcpAbsx =>
    exact rmwInstr_flipD (fun _ _ => rfl) ignoresD_afterDcp
  case isbIzx | isbZp | isbAbs | isbIzy | isbZpx | isbAbsy | isbAbsx =>
    exact rmwInstr_flipD (fun _ _ => rfl) ignoresD_afterIsb
  case ahxIzy | tasAbsy | shyAbsx | shxAbsy | ahxAbsy => exact shInstr_flipD (fun _ => rfl) fun _ => rfl
  case aslAcc | lsrAcc => exact accInstr_flipD fun _ _ => rfl
  case rolAcc => exact accInstr_flipD rolOf_flipD
  case rorAcc => exact accInstr_flipD rorOf_flipD
  case bpl o => exact branchInstr_flipD o (congrArg not (flipD_n s))
  case bmi o => exact branchInstr_flipD o (flipD_n s)
  case bvc o => exact branchInstr_flipD o (congrArg not (flipD_v s))
  case bvs o => exact branchInstr_flipD o (flipD_v s)
  case bcc o => exact branchInstr_flipD o (congrArg not (flipD_c s))
  case bcs o => exact branchInstr_flipD o (flipD_c s)
  case bne o => exact branchInstr_flipD o (congrArg not (flipD_z s))
  case beq o => exact branchInstr_flipD o (flipD_z s)
  case clc | sec => exact impliedInstr_flipD (ignoresD_setC _)
  case cli | sei => exact impliedInstr_flipD (ignoresD_setI _)
  case clv => exact impliedInstr_flipD (ignoresD_setV _)
  case txa | tya => exact impliedInstr_flipD fun t => ignoresD_loadA _ t
  case tax | tsx | inx | dex => exact impliedInstr_flipD fun t => ignoresD_loadX _ t
  case tay | iny | dey => exact impliedInstr_flipD fun t => ignoresD_loadY _ t
  case txs | nopImpl1A | nopImpl3A | nopImpl5A | nopImpl7A | nopImplDA | nopImplEA | nopImplFA =>
    exact impliedInstr_flipD fun _ => rfl
  case pha => exact impliedInstr_flipD ignoresD_pushA
  case pla => exact impliedInstr_flipD ignoresD_pullA
  case rts => exact impliedInstr_flipD ignoresD_returnToCaller
  case jmpAbs => rfl
  case jmpInd w => exact execJmpInd_flipD w
  case jsrAbs w => exact execJsrAbs_flipD w
  case jam02 | jam12 | jam22 | jam32 | jam42 | jam52 | jam62 | jam72 | jam92 | jamB2 | jamD2 | jamF2 => rfl

/-- Settles O58: `exec_flipD`, where exec answers a next state. -/
theorem decimalFlagChangesNothing : Obligations.DecimalFlagChangesNothing := by
  intro i s t hi h
  rw [exec_flipD hi, h]
  rfl

end Sys2Proof.Machine

/-! ## 44_shift_rotate.md: shifts and rotates -/

namespace Sys2Proof.Machine

/-- R300: bit 0 of a byte, as a number. -/
theorem bit0_eq (v : Byte) : v.getLsbD 0 = decide (v.toNat % 2 = 1) := by revert v; decide

theorem asl8_eq (m : Byte) : asl8 m = aslOut m := by
  have hresult : m <<< 1 = BitVec.ofNat 8 (2 * m.toNat) := by revert m; decide
  rw [asl8, aslOut, hresult, bit7_eq]

theorem lsr8_eq (m : Byte) : lsr8 m = lsrOut m := by
  have hresult : m >>> 1 = BitVec.ofNat 8 (m.toNat / 2) := by revert m; decide
  rw [lsr8, lsrOut, hresult, bit0_eq]

/-- R300, R303: the old C enters bit 0, so it adds one to the doubled byte. -/
theorem rol8_eq (m : Byte) (c : Bool) : rol8 m c = rolOut m c := by
  have hresult : (m <<< 1) ||| (if c then 0x01 else 0x00) = BitVec.ofNat 8 (2 * m.toNat + c.toNat) := by
    revert m c; decide
  rw [rol8, rolOut, hresult, bit7_eq]

/-- R300, R304: the old C enters bit 7, so it adds 128 to the halved byte. -/
theorem ror8_eq (m : Byte) (c : Bool) : ror8 m c = rorOut m c := by
  have hresult : (m >>> 1) ||| (if c then 0x80 else 0x00) = BitVec.ofNat 8 (m.toNat / 2 + 128 * c.toNat) := by
    revert m c; decide
  rw [ror8, rorOut, hresult, bit0_eq]

/-- R301 to R304: C and then N and Z are written, in the order of `setShift`; they are different bits of P. -/
theorem setShift_p_eq (v : Byte) (c : Bool) (t : State) :
    (setShift v c t).p = packFlags { nzOf v t.flags with c := c } := by
  rw [setShift, setNZ_p_eq, State.flags_setC, nzOf, nzOf]

theorem leaves_setShift (v : Byte) (c : Bool) (t : State) :
    Leaves t (setShift v c t) t.regs (packFlags { nzOf v t.flags with c := c }) :=
  ⟨rfl, rfl, setShift_p_eq v c t⟩

section

variable {f : Byte → State → Byte × Bool} {s : State} {out : Byte × Bool}

/-- R161: a shift or rotate of A completes in two cycles, with the result in A and in N and Z, and the bit shifted out in C. -/
theorem accInstr_completes (hf : f s.a (s.advance 1) = out) :
    ∃ t, accInstr f s = .next t ∧ QuietFrame 1 2 s t ∧ t.regs = (out.1, s.x, s.y, s.sp) ∧
      t.p = packFlags { nzOf out.1 s.flags with c := out.2 } := by
  subst hf
  exact impliedInstr_completes ⟨rfl, rfl, setShift_p_eq _ _ _⟩

/-- R301 to R304: a shift or rotate of a byte of memory writes no register and sets N and Z from the byte written, C from the bit shifted
out. -/
theorem shiftMemory_completes {cost : Nat} {m : MemOperand} (hf : f (byteOf (.mem m) s) (afterRead (.mem m) s) = out) :
    ∃ t, rmwInstr cost m f setShift s = .next t ∧ t.regs = s.regs ∧ RmwFrame cost m out.1 s t ∧
      t.p = packFlags { nzOf out.1 s.flags with c := out.2 } := by
  obtain ⟨t, hexec, hframe, hregs, hp⟩ := rmwInstr_completes hf (leaves_setShift out.1 out.2 (afterRmw m out.1 s))
  exact ⟨t, hexec, hregs, hframe, hp⟩

end

/-- R301 to R304: the four accumulator forms complete, each with the result and the carry out listed for it. -/
theorem accForms_complete {s : State} {f : Instr × Byte × Bool} (hf : f ∈ accForms s) :
    ∃ t, exec f.1 s = .next t ∧ QuietFrame 1 2 s t ∧ t.regs = (f.2.1, s.x, s.y, s.sp) ∧
      t.p = packFlags { nzOf f.2.1 s.flags with c := f.2.2 } := by
  fin_cases hf
  · exact accInstr_completes (f := aslOf) (asl8_eq s.a)
  · exact accInstr_completes (f := lsrOf) (lsr8_eq s.a)
  · exact accInstr_completes (f := rolOf) (rol8_eq s.a s.flags.c)
  · exact accInstr_completes (f := rorOf) (ror8_eq s.a s.flags.c)

section

variable {z : Byte} {w : Addr} {s : State} {f : Instr × MemOperand × Nat}

/-- R301: every memory form of ASL is the read-modify-write instruction of its operand and its cycles that shifts left. -/
theorem exec_of_mem_aslForms (hf : f ∈ aslForms z w) : exec f.1 s = rmwInstr f.2.2 f.2.1 aslOf setShift s := by
  fin_cases hf <;> rfl

/-- R302: every memory form of LSR shifts right likewise. -/
theorem exec_of_mem_lsrForms (hf : f ∈ lsrForms z w) : exec f.1 s = rmwInstr f.2.2 f.2.1 lsrOf setShift s := by
  fin_cases hf <;> rfl

/-- R303: every memory form of ROL rotates left likewise. -/
theorem exec_of_mem_rolForms (hf : f ∈ rolForms z w) : exec f.1 s = rmwInstr f.2.2 f.2.1 rolOf setShift s := by
  fin_cases hf <;> rfl

/-- R304: every memory form of ROR rotates right likewise. -/
theorem exec_of_mem_rorForms (hf : f ∈ rorForms z w) : exec f.1 s = rmwInstr f.2.2 f.2.1 rorOf setShift s := by
  fin_cases hf <;> rfl

end

/-- Settles O25: the accumulator forms are `accForms_complete`; every memory form is a read-modify-write instruction that shifts the byte
(`shiftMemory_completes`), whose shift in bits is the shift in numbers. -/
theorem shiftsMoveOneBit : Obligations.ShiftsMoveOneBit := by
  intro s z w
  refine ⟨rfl, fun f hf => accForms_complete hf, rfl, fun f hf => ?_, rfl, fun f hf => ?_, rfl, fun f hf => ?_,
    rfl, fun f hf => ?_⟩
  · rw [exec_of_mem_aslForms hf]
    exact shiftMemory_completes (asl8_eq _)
  · rw [exec_of_mem_lsrForms hf]
    exact shiftMemory_completes (lsr8_eq _)
  · rw [exec_of_mem_rolForms hf]
    exact shiftMemory_completes (rol8_eq _ _)
  · rw [exec_of_mem_rorForms hf]
    exact shiftMemory_completes (ror8_eq _ _)

end Sys2Proof.Machine

/-! ## 45_control_flags.md: branches, jumps, calls, BRK and RTI -/

namespace Sys2Proof.Machine

/-- R172: a branch target in numbers: the address of the next instruction plus the signed offset, mod 2^16. -/
theorem branchTarget_toNat (next : Addr) (o : Byte) :
    (branchTarget next o).toNat = (((next.toNat : Int) + o.toInt) % 65536).toNat := by
  have hsum : branchTarget next o = BitVec.ofInt 16 (next.toNat + o.toInt) := by
    rw [BitVec.ofInt_add, BitVec.ofInt_natCast, BitVec.ofNat_toNat, BitVec.setWidth_eq]
    rfl
  rw [hsum, BitVec.toNat_ofInt]
  rfl

/-- R320: a taken branch costs one cycle more on the page of the next instruction, two to another page. -/
theorem two_add_branchPenalty (next target : Addr) :
    2 + branchPenalty next target = if next.toNat / 256 = target.toNat / 256 then 3 else 4 := by
  rw [branchPenalty, crossed_toNat]
  split <;> rfl

/-- R321 to R328: every branch is the one on the condition listed for it. -/
theorem exec_of_mem_branchForms {o : Byte} {s : State} {f : Instr × Bool} (hf : f ∈ branchForms o s.flags) :
    exec f.1 s = branchInstr f.2 o s := by
  fin_cases hf <;> rfl

/-- Settles O26: each listed branch is `branchInstr` on its condition; target and cost are `branchTarget_toNat` and
`two_add_branchPenalty`, both from the address of the next instruction. -/
theorem branchesTakeTheirTarget : Obligations.BranchesTakeTheirTarget := by
  refine fun s o => ⟨rfl, fun f hf => ?_⟩
  rw [exec_of_mem_branchForms hf]
  have hnext : (s.pc + 2).toNat = (s.pc.toNat + 2) % 65536 := BitVec.toNat_add s.pc 2
  have htarget := branchTarget_toNat (s.pc + 2) o
  have hcost := two_add_branchPenalty (s.pc + 2) (branchTarget (s.pc + 2) o)
  rw [htarget, hnext] at hcost
  rw [hnext] at htarget
  generalize f.2 = taken
  cases taken with
  | false => exact ⟨_, rfl, rfl, rfl, rfl, rfl, fun _ => rfl, ⟨rfl, rfl, rfl, rfl, rfl, rfl, rfl⟩, hnext, rfl⟩
  | true =>
    exact ⟨_, rfl, rfl, rfl, rfl, rfl, fun _ => rfl, ⟨rfl, rfl, rfl, rfl, rfl, rfl, rfl⟩, htarget,
      congrArg (s.cycles + ·) hcost⟩

/-- R9: the high byte of one word beside the low byte of another. -/
theorem highMask_or_lowMask (w u : Addr) : (w &&& 0xFF00) ||| (u &&& 0x00FF) = wordOf (lo u) (hi w) := by
  apply BitVec.eq_of_getLsbD_eq
  intro i hlt
  have hword : (wordOf (lo u) (hi w)).getLsbD i = if i < 8 then (lo u).getLsbD i else (hi w).getLsbD (i - 8) :=
    BitVec.getLsbD_append
  rw [hword, lo, hi]
  interval_cases i <;> simp

/-- R330, in numbers: the next address of the same page. -/
theorem pointerHighAddr_eq (w : Addr) :
    pointerHighAddr w = BitVec.ofNat 16 (w.toNat / 256 * 256 + (w.toNat + 1) % 256) := by
  apply BitVec.eq_of_toNat_eq
  rw [pointerHighAddr, highMask_or_lowMask, wordOf_toNat, lo_toNat, hi_toNat, BitVec.toNat_add, BitVec.toNat_ofNat]
  have hone : (1 : Addr).toNat = 1 := rfl
  have hw := w.isLt
  omega

/-- R150: a bus read does not look at PC. -/
theorem read8_advance (a : Addr) (s : State) (n : Nat) :
    read8 a (s.advance n) = ((read8 a s).1, (read8 a s).2.advance n) := by
  rw [read8_eq, read8_eq a s, busByte_advance]
  rfl

theorem jumpTarget_advance (w : Addr) (s : State) (n : Nat) :
    jumpTarget w (s.advance n) = ((jumpTarget w s).1, (jumpTarget w s).2.advance n) := by
  simp only [jumpTarget, read8_advance]

/-- R330: reading the target of an indirect jump changes the trace and the draw counter only. -/
theorem jumpTarget_frame (w : Addr) (s : State) :
    (jumpTarget w s).2 = { s with trace := (jumpTarget w s).2.trace, draws := (jumpTarget w s).2.draws } := by
  have hsnd : (jumpTarget w s).2 = (read8 (pointerHighAddr w) (read8 w s).2).2 := rfl
  rw [hsnd, read8_frame, read8_frame w s]

/-- Settles O27: JMP absolute writes PC only; JMP indirect makes the two reads of `jumpTarget`, the second at
`pointerHighAddr_eq`. -/
theorem jumpsGoToTheirTarget : Obligations.JumpsGoToTheirTarget := by
  intro s w
  refine ⟨rfl, ⟨_, rfl, rfl, rfl, rfl, rfl, rfl, rfl, fun _ => rfl, rfl, rfl, rfl, rfl, rfl, rfl, rfl⟩, ?_⟩
  rw [← pointerHighAddr_eq]
  have hexec : exec (.jmpInd w) s = .next ((((jumpTarget w s).2.advance 3).setPC (jumpTarget w s).1).tick 5) := by
    simp only [exec, execJmpInd, jumpTarget_advance]
  refine ⟨_, hexec, rfl, ?_, ?_, ?_, rfl, rfl, ?_, ?_⟩
  all_goals rw [jumpTarget_frame]
  · rfl
  · rfl
  · rfl
  · exact fun _ => rfl
  · exact ⟨rfl, rfl, rfl, rfl, rfl, rfl, rfl⟩

/-- R12: Pull16 takes the two bytes above SP, the low byte first. -/
theorem pull16_eq_stackByte (s : State) :
    pull16 s = (wordOf (stackByte s 1) (stackByte s 2), s.setSP (s.sp + 2)) := by
  rw [pull16_eq, stackByte_eq, stackByte_eq]
  rfl

/-- R331: JSR pushes the address of its last byte and goes to its operand. -/
theorem exec_jsrAbs (w : Addr) (s : State) :
    exec (.jsrAbs w) s = .next (((push16 (s.pc + 2) (s.advance 3)).setPC w).tick 6) := by
  have hret : (s.advance 3).pc - 1 = s.pc + 2 := by
    rw [State.advance_pc]
    bv_omega
  rw [exec, execJsrAbs, hret]

/-- R332: RTS goes to the word above SP plus one. -/
theorem exec_rts (s : State) :
    exec .rts s = .next (((s.setSP (s.sp + 2)).setPC (wordOf (stackByte s 1) (stackByte s 2) + 1)).tick 6) := by
  rw [exec, execRts, impliedInstr, returnToCaller, pull16_eq_stackByte]
  rfl

/-- Settles O28: `exec_jsrAbs` with the two bytes that Push16 stores, and `exec_rts`. -/
theorem callPushesAndReturnPulls : Obligations.CallPushesAndReturnPulls := by
  refine fun s w => ⟨rfl, ⟨_, exec_jsrAbs w s, ?_⟩, ⟨_, exec_rts s, ?_⟩⟩
  · rw [push16_eq]
    exact ⟨rfl, rfl, rfl, rfl, rfl, rfl, pushesWord_of rfl rfl, rfl, rfl, rfl, rfl, rfl, rfl, rfl⟩
  · exact ⟨rfl, rfl, rfl, rfl, rfl, rfl, fun _ => rfl, rfl, rfl, rfl, rfl, rfl, rfl, rfl⟩

/-- R12: the byte `k` places above SP is the byte of memory at its stack address. -/
theorem peek_stackAddr (s : State) (k : Nat) : peek s (stackAddr (s.sp + BitVec.ofNat 8 k)) = some (stackByte s k) := by
  rw [peek, region_stack, stackByte_eq]

/-- R12: a word pushed stands in the two bytes above the new SP, whatever SP was. -/
theorem stackBytes_of_pushesWord {w : Addr} {s t : State} (hsp : t.sp = s.sp - 2) (h : PushesWord w s t) :
    stackByte t 1 = lo w ∧ stackByte t 2 = hi w := by
  have hlow := peek_stackAddr t 1
  have hhigh := peek_stackAddr t 2
  have hsp1 : t.sp + BitVec.ofNat 8 1 = s.sp - 1 := by rw [hsp]; bv_omega
  have hsp2 : t.sp + BitVec.ofNat 8 2 = s.sp := by rw [hsp]; bv_omega
  obtain ⟨hslots, -, -⟩ := stack_slots_differ s.sp
  have hdiffer : ¬sameByte s.params (stackAddr s.sp) (stackAddr (s.sp - 1)) := by
    simpa only [sameByte, region_stack, Region.ram.injEq] using hslots
  rw [hsp1, h, if_pos rfl] at hlow
  rw [hsp2, h, if_neg hdiffer, if_pos rfl] at hhigh
  exact ⟨(Option.some.inj hlow).symm, (Option.some.inj hhigh).symm⟩

/-- Settles O29: RTS pulls the word that JSR pushed (`stackBytes_of_pushesWord`), by what O28 says of the two. -/
theorem returnUndoesCall : Obligations.ReturnUndoesCall := by
  intro s w
  obtain ⟨-, ⟨t, hjsr, -, htregs, htp, -, -, -, hpush, -⟩, -⟩ := callPushesAndReturnPulls s w
  obtain ⟨-, -, ⟨u, hrts, hupc, huregs, hup, -⟩⟩ := callPushesAndReturnPulls t w
  simp only [State.regs, Prod.mk.injEq] at htregs
  obtain ⟨ha, hx, hy, hsp⟩ := htregs
  obtain ⟨hlow, hhigh⟩ := stackBytes_of_pushesWord hsp hpush
  refine ⟨t, u, hjsr, hrts, ?_, ?_, hup.trans htp⟩
  · rw [hupc, hlow, hhigh, wordOf_lo_hi, add_assoc]
    rfl
  · have hback : s.sp - 2 + 2 = s.sp := sub_add_cancel s.sp 2
    rw [huregs, ha, hx, hy, hsp, hback, State.regs]

/-- R333: BRK enters through $FFFE, with its address plus 2 and P with B and R set. -/
theorem exec_brk (s : State) :
    exec .brk s = .next ((enter (s.pc + 2) (s.p ||| 0x30) irqVector (s.advance 1)).tick 7) := by
  have hret : (s.advance 1).pc + 1 = s.pc + 2 := add_assoc s.pc 1 1
  rw [exec, execBrk, impliedInstr, hret]
  rfl

/-- Settles O30: `exec_brk`, with everything that `enter` does; the vector lies above RAM, so the pushes do not change what is read
there. -/
theorem breakEntersThroughItsVector : Obligations.BreakEntersThroughItsVector := by
  refine fun s => ⟨rfl, _, exec_brk s, ?_⟩
  have hvector : read16 irqVector (s.advance 1) = _ := read16_high (s := s) (by decide) (by decide) rfl rfl rfl
  rw [enter_eq (s.pc + 2) (s.p ||| 0x30) (by decide) (by decide), hvector]
  exact ⟨rfl, rfl, rfl, rfl, rfl, rfl, pushesEntry_of rfl rfl, rfl, rfl, rfl, rfl, rfl, rfl, rfl⟩

/-- R334: the return takes P and then PC from the three bytes above SP. -/
theorem leave_eq_stackByte (s : State) :
    leave s = { s with
      sp := s.sp + 3
      p := (stackByte s 1 &&& 0xCF) ||| 0x20
      pc := wordOf (stackByte s 2) (stackByte s 3) } := by
  rw [leave_eq, stackByte_eq, stackByte_eq, stackByte_eq]
  rfl

/-- Settles O31: RTI is the return of `leave_eq_stackByte`, which does not look at PC. -/
theorem returnFromInterruptRestores : Obligations.ReturnFromInterruptRestores := by
  intro s
  have hexec : exec .rti s = .next ((leave (s.advance 1)).tick 6) := rfl
  rw [leave_eq_stackByte] at hexec
  exact ⟨rfl, _, hexec, rfl, rfl, rfl, rfl, rfl, rfl, fun _ => rfl, rfl, rfl, rfl, rfl, rfl, rfl, rfl⟩

end Sys2Proof.Machine

/-! ## 45_control_flags.md: flag instructions and NOP -/

namespace Sys2Proof.Machine

theorem leaves_setFlags (f : Flags) (t : State) : Leaves t (t.setFlags f) t.regs (packFlags f) := ⟨rfl, rfl, rfl⟩

/-- R335 to R341: every flag instruction is the one-byte instruction that leaves the flags listed for it. -/
theorem exec_of_mem_flagForms {s : State} {f : Instr × Flags} (hf : f ∈ flagForms s.flags) :
    exec f.1 s = impliedInstr 2 (fun t => t.setFlags f.2) s := by
  fin_cases hf <;> rfl

/-- Settles O32: every listed form writes its flags and no register, in two cycles (`impliedInstr_completes`). -/
theorem flagInstructionsWriteOneFlag : Obligations.FlagInstructionsWriteOneFlag := by
  refine fun s => ⟨rfl, fun f hf => ?_⟩
  rw [exec_of_mem_flagForms hf]
  exact impliedInstr_completes (leaves_setFlags f.2 (s.advance 1))

theorem leaves_nothing (t : State) : Leaves t (nothing t) t.regs t.p := ⟨rfl, rfl, rfl⟩

theorem leaves_discard (m : Byte) (t : State) : Leaves t (discard m t) t.regs t.p := ⟨rfl, rfl, rfl⟩

/-- R342, R391: every one-byte NOP does nothing for two cycles. -/
theorem exec_of_mem_nopOneByte {s : State} {i : Instr} (hi : i ∈ nopOneByte) : exec i s = impliedInstr 2 nothing s := by
  fin_cases hi <;> rfl

/-- R392 to R394: every other NOP is the read-kind instruction of its operand and its cycles that discards the byte. -/
theorem exec_of_mem_nopForms {s : State} {v z : Byte} {w : Addr} {f : Instr × ReadOperand × Nat} (hf : f ∈ nopForms v z w) :
    exec f.1 s = readInstr f.2.2 f.2.1 discard s := by
  fin_cases hf <;> rfl

/-- Settles O33: a one-byte NOP does nothing to the state past it, and another discards the byte of its one read; neither writes a
register or a flag. -/
theorem noOperationsOnlyAdvance : Obligations.NoOperationsOnlyAdvance := by
  refine fun s v z w => ⟨rfl, fun i hi => ?_, rfl, fun f hf => ?_⟩
  · rw [exec_of_mem_nopOneByte hi]
    exact impliedInstr_completes (leaves_nothing (s.advance 1))
  · rw [exec_of_mem_nopForms hf]
    exact readInstr_completes (leaves_discard (byteOf f.2.1 s) (afterRead f.2.1 s))

end Sys2Proof.Machine

/-! ## 46_undocumented.md: the combined read-modify-write instructions -/

namespace Sys2Proof.Machine

/-- R371 to R373, R380: A loaded with a result, and C with the bit shifted out. -/
theorem leaves_shiftIntoA (v : Byte) (c : Bool) (t : State) :
    Leaves t (setShift v c (t.setA v)) (v, t.x, t.y, t.sp) (packFlags { nzOf v t.flags with c := c }) :=
  ⟨rfl, rfl, setShift_p_eq v c (t.setA v)⟩

theorem leaves_afterSlo (v : Byte) (c : Bool) (t : State) :
    Leaves t (afterSlo v c t) (t.a ||| v, t.x, t.y, t.sp) (packFlags { nzOf (t.a ||| v) t.flags with c := c }) :=
  leaves_shiftIntoA (t.a ||| v) c t

theorem leaves_afterRla (v : Byte) (c : Bool) (t : State) :
    Leaves t (afterRla v c t) (t.a &&& v, t.x, t.y, t.sp) (packFlags { nzOf (t.a &&& v) t.flags with c := c }) :=
  leaves_shiftIntoA (t.a &&& v) c t

theorem leaves_afterSre (v : Byte) (c : Bool) (t : State) :
    Leaves t (afterSre v c t) (t.a ^^^ v, t.x, t.y, t.sp) (packFlags { nzOf (t.a ^^^ v) t.flags with c := c }) :=
  leaves_shiftIntoA (t.a ^^^ v) c t

section

variable {z : Byte} {w : Addr} {s : State} {f : Instr × MemOperand × Nat}

/-- R371: every form of SLO is the read-modify-write instruction of its operand and its cycles that shifts left and sets bits of A. -/
theorem exec_of_mem_sloForms (hf : f ∈ sloForms z w) : exec f.1 s = rmwInstr f.2.2 f.2.1 aslOf afterSlo s := by
  fin_cases hf <;> rfl

/-- R372: every form of RLA rotates left and masks A likewise. -/
theorem exec_of_mem_rlaForms (hf : f ∈ rlaForms z w) : exec f.1 s = rmwInstr f.2.2 f.2.1 rolOf afterRla s := by
  fin_cases hf <;> rfl

/-- R373: every form of SRE shifts right and turns over bits of A likewise. -/
theorem exec_of_mem_sreForms (hf : f ∈ sreForms z w) : exec f.1 s = rmwInstr f.2.2 f.2.1 lsrOf afterSre s := by
  fin_cases hf <;> rfl

/-- R374: every form of RRA rotates right and adds to A likewise. -/
theorem exec_of_mem_rraForms (hf : f ∈ rraForms z w) : exec f.1 s = rmwInstr f.2.2 f.2.1 rorOf afterRra s := by
  fin_cases hf <;> rfl

/-- R377: every form of DCP subtracts one and compares with A likewise. -/
theorem exec_of_mem_dcpForms (hf : f ∈ dcpForms z w) : exec f.1 s = rmwInstr f.2.2 f.2.1 decByte afterDcp s := by
  fin_cases hf <;> rfl

/-- R378: every form of ISB adds one and subtracts from A likewise. -/
theorem exec_of_mem_isbForms (hf : f ∈ isbForms z w) : exec f.1 s = rmwInstr f.2.2 f.2.1 incByte afterIsb s := by
  fin_cases hf <;> rfl

end

/-- Settles O34: every form is a read-modify-write instruction (`rmwInstr_completes`) whose shift in bits is the shift in numbers, and
whose effect loads A with the combination and C with the bit shifted out (`leaves_shiftIntoA`). -/
theorem shiftAndCombineWithA : Obligations.ShiftAndCombineWithA := by
  intro s z w
  refine ⟨rfl, fun f hf => ?_, rfl, fun f hf => ?_, rfl, fun f hf => ?_⟩
  · rw [exec_of_mem_sloForms hf]
    exact rmwInstr_completes (asl8_eq _) (leaves_afterSlo _ _ _)
  · rw [exec_of_mem_rlaForms hf]
    exact rmwInstr_completes (rol8_eq _ _) (leaves_afterRla _ _ _)
  · rw [exec_of_mem_sreForms hf]
    exact rmwInstr_completes (lsr8_eq _) (leaves_afterSre _ _ _)

/-- Settles O35: every form is a read-modify-write instruction whose effect is that of ADC with the rotate's carry, of CMP, or of SBC, on
the byte written. -/
theorem rotateStepAndArithmetic : Obligations.RotateStepAndArithmetic := by
  intro s z w
  refine ⟨rfl, fun f hf => ?_, rfl, fun f hf => ?_, rfl, fun f hf => ?_⟩
  · rw [exec_of_mem_rraForms hf]
    exact rmwInstr_completes (ror8_eq _ _) (leaves_addToA _ _ _)
  · rw [exec_of_mem_dcpForms hf]
    exact rmwInstr_completes (by rw [decByte, sub_one_eq_ofNat]) (leaves_compare _ _ _)
  · rw [exec_of_mem_isbForms hf]
    exact rmwInstr_completes (by rw [incByte, add_one_eq_ofNat]) (leaves_sbc _ _)

end Sys2Proof.Machine

/-! ## 46_undocumented.md: immediate combinations and unstable loads -/

namespace Sys2Proof.Machine

/-- R162: a read-kind instruction on an immediate byte makes no access, and completes with the registers and P that its effect leaves. -/
theorem immInstr_completes {cost : Nat} {v : Byte} {s : State} {effect : Byte → State → State}
    {r : Byte × Byte × Byte × Byte} {p : Byte}
    (h : Leaves (afterRead (.imm v) s) (effect v (afterRead (.imm v) s)) r p) :
    ∃ t, readInstr cost (.imm v) effect s = .next t ∧ QuietFrame 2 cost s t ∧ t.regs = r ∧ t.p = p := by
  obtain ⟨t, hexec, hframe, hregs, hp⟩ := readInstr_completes h
  exact ⟨t, hexec, quietFrame_of_imm hframe, hregs, hp⟩

theorem flags_loadA (m : Byte) (t : State) : (loadA m t).flags = nzOf m t.flags := setNZ_flags m (t.setA m)

/-- R379: C is bit 7 of the result, as N is. -/
theorem leaves_anc (m : Byte) (t : State) :
    Leaves t (anc m t) (t.a &&& m, t.x, t.y, t.sp)
      (packFlags { nzOf (t.a &&& m) t.flags with c := decide (128 ≤ (t.a &&& m).toNat) }) := by
  refine ⟨rfl, rfl, ?_⟩
  rw [anc, setC_p, andA, flags_loadA, bit7_eq]

theorem leaves_alr (m : Byte) (t : State) :
    Leaves t (alr m t) ((lsrOut (t.a &&& m)).1, t.x, t.y, t.sp)
      (packFlags { nzOf (lsrOut (t.a &&& m)).1 t.flags with c := (lsrOut (t.a &&& m)).2 }) := by
  rw [← lsr8_eq]
  exact leaves_shiftIntoA _ _ t

/-- R381: the rotate of R300 gives ARR's result in numbers. -/
theorem ror8_fst_eq_arrOut (m : Byte) (c : Bool) : (ror8 m c).1 = arrOut m c := congrArg Prod.fst (ror8_eq m c)

/-- R381: V as ARR leaves it, in numbers: bits 6 and 5 of the result differ. -/
theorem bit6_xor_bit5_eq (r : Byte) :
    (r.getLsbD 6 ^^ r.getLsbD 5) = decide (r.toNat / 64 % 2 ≠ r.toNat / 32 % 2) := by revert r; decide

theorem setV_setC_p_eq (v c : Bool) (t : State) :
    (setV v (setC c t)).p = packFlags { t.flags with c := c, v := v } := by
  rw [setV, State.setFlags_p, State.flags_setC]

/-- R381: C and V come from the result, and not from the bit shifted out. -/
theorem leaves_arr (m : Byte) (t : State) :
    Leaves t (arr m t) (arrOut (t.a &&& m) t.flags.c, t.x, t.y, t.sp)
      (packFlags { nzOf (arrOut (t.a &&& m) t.flags.c) t.flags with
        c := decide ((arrOut (t.a &&& m) t.flags.c).toNat / 64 % 2 = 1)
        v := decide ((arrOut (t.a &&& m) t.flags.c).toNat / 64 % 2 ≠ (arrOut (t.a &&& m) t.flags.c).toNat / 32 % 2) }) := by
  rw [← ror8_fst_eq_arrOut, ← bit6_eq, ← bit6_xor_bit5_eq, ← flags_loadA]
  exact ⟨rfl, rfl, setV_setC_p_eq _ _ _⟩

/-- R384: a difference mod 256, as a number. -/
theorem sub_eq_ofNat (a m : Byte) : a - m = BitVec.ofNat 8 (a.toNat + 256 - m.toNat) := by
  apply BitVec.eq_of_toNat_eq
  rw [BitVec.toNat_sub, BitVec.toNat_ofNat]
  have hm := m.isLt
  omega

/-- R384: C says that there is no borrow, and the old C does not enter. -/
theorem leaves_axs (m : Byte) (t : State) :
    Leaves t (axs m t) (t.a, BitVec.ofNat 8 ((t.a &&& t.x).toNat + 256 - m.toNat), t.y, t.sp)
      (packFlags { nzOf (BitVec.ofNat 8 ((t.a &&& t.x).toNat + 256 - m.toNat)) t.flags with
        c := decide (m.toNat ≤ (t.a &&& t.x).toNat) }) := by
  rw [← sub_eq_ofNat]
  exact ⟨rfl, rfl, setShift_p_eq _ _ (t.setX _)⟩

/-- R385: LAS loads A, X and SP with `M AND SP`. -/
theorem leaves_las (m : Byte) (t : State) :
    Leaves t (las m t) (m &&& t.sp, m &&& t.sp, t.y, m &&& t.sp) (packFlags (nzOf (m &&& t.sp) t.flags)) :=
  leaves_loadAX (m &&& t.sp) (t.setSP (m &&& t.sp))

/-- Settles O36: each is a read-kind instruction on an immediate byte (`immInstr_completes`), with what its effect leaves in numbers. -/
theorem immediateCombinations : Obligations.ImmediateCombinations := by
  intro s v
  refine ⟨rfl, fun i hi => ?_, immInstr_completes (leaves_alr _ _), immInstr_completes (leaves_arr _ _),
    immInstr_completes (leaves_axs _ _)⟩
  have hexec : exec i s = readInstr 2 (.imm v) anc s := by fin_cases hi <;> rfl
  rw [hexec]
  exact immInstr_completes (leaves_anc _ _)

/-- Settles O37: XAA and LAX immediate load a combination of the immediate byte with their constant, which stays opaque; LAS is a
read-kind instruction (`leaves_las`). -/
theorem unstableLoadsUseTheirParameters : Obligations.UnstableLoadsUseTheirParameters := by
  intro s v w
  exact ⟨rfl, immInstr_completes (leaves_loadA _ _), immInstr_completes (leaves_loadAX _ _),
    readInstr_completes (leaves_las _ _)⟩

end Sys2Proof.Machine

/-! ## 46_undocumented.md: high-byte stores -/

namespace Sys2Proof.Machine

/-- R395 in numbers: the value a high-byte store of `u` writes: `u` AND the high byte of the address before indexing plus one. -/
def shValue (u : Byte) (base : Addr) : Byte := u &&& BitVec.ofNat 8 (base.toNat / 256 + 1)

/-- R395 in numbers: where a high-byte store of the value `v` goes. -/
def shAddr (p : Params) (base ea : Addr) (v : Byte) : Addr :=
  if p.shGlitch = true ∧ base.toNat / 256 ≠ ea.toNat / 256 then BitVec.ofNat 16 (v.toNat * 256 + ea.toNat % 256) else ea

/-- R9: the word of two bytes, as a number. -/
theorem wordOf_eq_ofNat (l h : Byte) : wordOf l h = BitVec.ofNat 16 (h.toNat * 256 + l.toNat) := by
  rw [Nat.mul_comm, Nat.add_comm, ← wordOf_toNat, BitVec.ofNat_toNat, BitVec.setWidth_eq]

/-- R395: `SHStore` at an indexed address writes the value of `shValue` at the address of `shAddr`. -/
theorem shStore_indexed (u : Byte) (base : Addr) (i : Byte) (s : State) :
    shStore u (Resolved.indexed base i) s =
      write8 (shAddr s.params base (Resolved.indexed base i).ea (shValue u base)) (shValue u base) s := by
  have hbase : (Resolved.indexed base i).base = base := rfl
  have hvalue : u &&& (hi base + 1) = shValue u base := by rw [add_one_eq_ofNat, hi_toNat, shValue]
  rw [shStore, hbase, hvalue, indexed_crossed, ← indexed_ea_toNat, wordOf_eq_ofNat, lo_toNat, shAddr]
  simp only [Bool.and_eq_true, decide_eq_true_eq, and_comm]

/-- What a completed high-byte store of `u` leaves, indexing from `base`: the byte of `shValue` at the address of `shAddr`, its event, SP
as `sp`, and nothing else. -/
def ShCompleted (cost : Nat) (m : MemOperand) (base : Addr) (u sp : Byte) (s t : State) : Prop :=
  t.pc = s.pc + BitVec.ofNat 16 (memLength m) ∧ t.cycles = s.cycles + cost ∧
  t.trace = s.trace ++ writeEvents s.params (shAddr s.params base (eaOf m s) (shValue u base)) (shValue u base) ∧
  t.draws = s.draws ∧ StoresAt (shAddr s.params base (eaOf m s) (shValue u base)) (shValue u base) s t ∧
  KeepsBlock s t ∧ t.regs = (s.a, s.x, s.y, sp) ∧ t.p = s.p

/-- R386 to R389: a high-byte store at an indexed address completes; neither the value nor SP afterwards depends on PC. -/
theorem shInstr_completes {cost : Nat} {m : MemOperand} {value : State → Byte} {effect : State → State} {s : State}
    {base : Addr} {i u sp : Byte} (hr : (resolve m s).1 = Resolved.indexed base i)
    (hv : value (s.advance (memLength m)) = u)
    (he : effect (s.advance (memLength m)) = (s.advance (memLength m)).setSP sp) :
    ∃ t, shInstr cost m value effect s = .next t ∧ ShCompleted cost m base u sp s t := by
  have hexec := shInstr_eq cost m value effect s
  have hea : (Resolved.indexed base i).ea = eaOf m s := by rw [← hr, eaOf_eq]
  rw [hv, he, hr, shStore_indexed, hea] at hexec
  refine ⟨_, hexec, ?_, ?_, ?_, ?_, peek_write8 _ _ ((s.advance (memLength m)).setSP sp), ?_, ?_, ?_⟩
  all_goals rw [write8_eq]
  · rfl
  · rfl
  · rfl
  · rfl
  · exact ⟨rfl, rfl, rfl, rfl, rfl, rfl, rfl⟩
  · rfl
  · rfl

/-- R386 to R389: every listed form is the high-byte store of its operand and its cycles, indexing from the address listed, of the value
listed and with SP as listed. -/
theorem exec_of_mem_shForms {z : Byte} {w : Addr} {s : State} {f : Instr × MemOperand × Addr × Byte × Byte × Nat}
    (hf : f ∈ shForms z w s) :
    ∃ value effect i, exec f.1 s = shInstr f.2.2.2.2.2 f.2.1 value effect s ∧
      (resolve f.2.1 s).1 = Resolved.indexed f.2.2.1 i ∧ value (s.advance (memLength f.2.1)) = f.2.2.2.1 ∧
      effect (s.advance (memLength f.2.1)) = (s.advance (memLength f.2.1)).setSP f.2.2.2.2.1 := by
  fin_cases hf
  · exact ⟨aAndX, fun t => t.setSP (aAndX t), s.y, rfl, rfl, rfl, rfl⟩
  · exact ⟨State.x, nothing, s.y, rfl, rfl, rfl, rfl⟩
  · exact ⟨State.y, nothing, s.x, rfl, rfl, rfl, rfl⟩
  · exact ⟨aAndX, nothing, s.y, rfl, rfl, rfl, rfl⟩
  · exact ⟨aAndX, nothing, s.y, rfl, rfl, rfl, rfl⟩

/-- Settles O38: each form is a high-byte store at an indexed address (`exec_of_mem_shForms`) and completes as one, the value and the address
in numbers by `shStore_indexed` (`shInstr_completes`). -/
theorem highByteStoresGoWhereTheGlitchSays : Obligations.HighByteStoresGoWhereTheGlitchSays := by
  refine fun s z w => ⟨rfl, fun f hf => ?_⟩
  obtain ⟨value, effect, i, hexec, hresolve, hvalue, heffect⟩ := exec_of_mem_shForms hf
  rw [hexec]
  exact shInstr_completes hresolve hvalue heffect

end Sys2Proof.Machine

/-! ## 46_undocumented.md: JAM -/

namespace Sys2Proof.Machine

/-- R400: every JAM opcode jams. -/
theorem exec_of_mem_jamInstrs {s : State} {i : Instr} (hi : i ∈ jamInstrs) : exec i s = .next (jam s) := by
  fin_cases hi <;> rfl

/-- Settles O39: `jam` writes `jammed` and `cycles` only, and a jammed CPU stands still (`step_jammed`). -/
theorem jamHaltsInPlace : Obligations.JamHaltsInPlace := fun s =>
  ⟨rfl, fun _ hi => ⟨jam s, exec_of_mem_jamInstrs hi, rfl, rfl, rfl, rfl, step_jammed rfl⟩⟩

end Sys2Proof.Machine

/-! ## 48_audio_pipeline.md: the single steps of a push and of a pull -/

namespace Sys2Proof.Machine

/-- R51, R441: what `RingOk` says, of a ring and the push and the pull in progress apart from the rest of the state. -/
def RingHolds (p : Params) (g : Ring) (producer : Producer) (consumer : Consumer) : Prop :=
  SlotsOk p.ringCap p.ringBits g.slots ∧ ElemOk p.ringBits g.last ∧ IndicesOk p.ringCap g ∧
    ProducerOk p g producer ∧ ConsumerOk p g consumer

theorem State.Inv.ringHolds {s : State} (hi : s.Inv) : RingHolds s.params s.ring s.producer s.consumer := by
  obtain ⟨-, -, -, -, -, -, hring⟩ := hi
  exact hring

theorem State.Inv.ringCapOk {s : State} (hi : s.Inv) : s.params.ringCapOk = true := by
  obtain ⟨-, -, -, -, -, ⟨-, -, -, hcap, -⟩, -⟩ := hi
  exact hcap

/-- The ring and the two operations in progress are all of the invariant that a move of either side can break. -/
theorem State.Inv.withRing {s : State} (hi : s.Inv) {g : Ring} {producer : Producer} {consumer : Consumer}
    (h : RingHolds s.params g producer consumer) :
    State.Inv { s with ring := g, producer := producer, consumer := consumer } := by
  obtain ⟨hp, hram, hfile, hsession, hacc, hhost, -⟩ := hi
  exact ⟨hp, hram, hfile, hsession, hacc, hhost, h⟩

/-- R8: RING_CAP is at most 2^31. -/
theorem ringCap_le {p : Params} (h : p.ringCapOk = true) : p.ringCap ≤ 2 ^ 31 := by
  obtain ⟨k, hk, he⟩ := ringCap_pow h
  exact he ▸ Nat.pow_le_pow_right (by decide) hk

/-- R439: not full by what the producer saw is room by what it saw. -/
theorem room_of_not_looksFull {cap : Nat} {g : Ring} (h : IndicesOk cap g) (hf : g.looksFull cap = false) :
    (g.w - g.rSeen).toNat < cap := by
  obtain ⟨-, hle, -⟩ := h
  exact lt_of_le_of_ne hle (by simpa [Ring.looksFull] using hf)

/-- R441: what the producer saw is behind, so room by what it saw is room. -/
theorem used_lt_of_room {cap : Nat} {g : Ring} (h : IndicesOk cap g) (hroom : (g.w - g.rSeen).toNat < cap) :
    g.used < cap := by
  obtain ⟨-, -, hseen, -⟩ := h
  exact lt_of_le_of_lt (by rw [hseen]; exact Nat.le_add_right _ _) hroom

/-- R441: what the consumer saw is behind, so an element there by what it saw is there. -/
theorem write_ne_read_of_seen {cap : Nat} {g : Ring} (h : IndicesOk cap g) (hseen : g.wSeen ≠ g.r) : g.w ≠ g.r := by
  obtain ⟨-, -, -, hw⟩ := h
  intro he
  have hw0 := dist_zero.2 he
  exact hseen (dist_zero.1 (by omega))

/-- R442: while there is room, the slot the producer writes is not the one of the oldest element. -/
theorem oldest_slot_ne_written {p : Params} (hcap : p.ringCapOk = true) {g : Ring} (hne : g.w ≠ g.r) (hu : g.used < p.ringCap) :
    slotOf p.ringCap g.r ≠ slotOf p.ringCap g.w := by
  obtain ⟨k, hk, he⟩ := ringCap_pow hcap
  rw [he] at hu ⊢
  exact (slotOf_ne hk hne hu).symm

/-- R442: with room, a slot write is not seen in the queue. -/
theorem queue_store_of_room {p : Params} (hcap : p.ringCapOk = true) (bits : Nat) {g : Ring} (q : Elem) (hu : g.used < p.ringCap) :
    (g.store p.ringCap q).queue p.ringCap bits = g.queue p.ringCap bits := by
  obtain ⟨k, hk, he⟩ := ringCap_pow hcap
  rw [he] at hu ⊢
  exact queue_store hk bits q hu

theorem producerOk_congr {p : Params} {g g' : Ring} (hw : g'.w = g.w) (hr : g'.rSeen = g.rSeen) (hs : g'.slots = g.slots)
    (producer : Producer) : ProducerOk p g' producer ↔ ProducerOk p g producer := by
  cases producer <;> simp only [ProducerOk, hw, hr, hs]

theorem consumerOk_congr {p : Params} {g g' : Ring} (hr : g'.r = g.r) (hw : g'.wSeen = g.wSeen) (hs : g'.slots = g.slots)
    (consumer : Consumer) : ConsumerOk p g' consumer ↔ ConsumerOk p g consumer := by
  cases consumer <;> simp only [ConsumerOk, hr, hw, hs]

/-- R439, R440: a slot write, with room, is not seen by a pull in progress: the slot it reads is another one. -/
theorem consumerOk_store {p : Params} (hcap : p.ringCapOk = true) {g : Ring} (hi : IndicesOk p.ringCap g)
    (hu : g.used < p.ringCap) (q : Elem) {consumer : Consumer} (h : ConsumerOk p g consumer) :
    ConsumerOk p (g.store p.ringCap q) consumer := by
  cases consumer with
  | idle => trivial
  | reading => exact h
  | publishing e =>
    obtain ⟨hseen, hslot⟩ := h
    refine ⟨hseen, ?_⟩
    show slotRead p.ringBits (slotWrite g.slots (slotOf p.ringCap g.w) q) (slotOf p.ringCap g.r) = e
    rw [slotRead_write, if_neg (oldest_slot_ne_written hcap (write_ne_read_of_seen hi hseen) hu), hslot]

section Steps
variable (view : Nat → Nat) (p : Params) (g : Ring)

/-- R439, R91: what a single step makes of the ring and the push in progress. -/
inductive PushStep : Producer → Ring → Producer → Prop
  | rest : PushStep .idle g .idle
  | done (n : Nat) : PushStep (.observing [] n) g .idle
  | full (q : Elem) (rest : List Elem) (n : Nat) (h : (g.observeRead view).looksFull p.ringCap = true) :
    PushStep (.observing (q :: rest) n) (g.observeRead view) .idle
  | room (q : Elem) (rest : List Elem) (n : Nat) (h : (g.observeRead view).looksFull p.ringCap = false) :
    PushStep (.observing (q :: rest) n) (g.observeRead view) (.storing q rest n)
  | store (q : Elem) (rest : List Elem) (n : Nat) : PushStep (.storing q rest n) (g.store p.ringCap q) (.publishing q rest n)
  | publish (q : Elem) (rest : List Elem) (n : Nat) :
    PushStep (.publishing q rest n) g.publishWrite (.observing rest (n + 1))

/-- R440, R91: what a single step makes of the ring and the pull in progress, and the element it answers. -/
inductive PullStep : Consumer → Option Elem → Ring → Consumer → Prop
  | empty (h : (g.observeWrite view).looksEmpty = true) : PullStep .idle (some g.last) (g.observeWrite view) .idle
  | observe (h : (g.observeWrite view).looksEmpty = false) : PullStep .idle none (g.observeWrite view) .reading
  | load : PullStep .reading none g (.publishing (g.load p.ringCap p.ringBits))
  | publish (q : Elem) : PullStep (.publishing q) (some q) (g.publishRead q) .idle

end Steps

/-- R439: a move of the producer is a step of its push, and touches nothing else. -/
theorem producerMove_pushStep (s : State) : ∃ g producer, (producerMove s).2 = { s with ring := g, producer := producer } ∧
    PushStep Config.readIndexView s.params s.ring s.producer g producer := by
  unfold producerMove
  split
  · next h => exact ⟨s.ring, s.producer, rfl, h ▸ .rest⟩
  · next n h => exact ⟨s.ring, .idle, rfl, h ▸ .done n⟩
  · next q rest n h =>
    dsimp only
    split
    · next hf => exact ⟨_, _, rfl, h ▸ .full q rest n hf⟩
    · next hf => exact ⟨_, _, rfl, h ▸ .room q rest n (Bool.eq_false_iff.2 hf)⟩
  · next q rest n h => exact ⟨_, _, rfl, h ▸ .store q rest n⟩
  · next q rest n h => exact ⟨_, _, rfl, h ▸ .publish q rest n⟩

/-- R440: a move of the consumer is a step of its pull, with its answer, and touches nothing else. -/
theorem consumerMove_pullStep (s : State) : ∃ a g consumer, consumerMove s = (a, { s with ring := g, consumer := consumer }) ∧
    PullStep Config.writeIndexView s.params s.ring s.consumer a g consumer := by
  unfold consumerMove
  split
  · next h =>
    dsimp only
    split
    · next he => exact ⟨_, s.ring.observeWrite Config.writeIndexView, s.consumer, rfl, h ▸ .empty he⟩
    · next he => exact ⟨_, _, _, rfl, h ▸ .observe (Bool.eq_false_iff.2 he)⟩
  · next h => exact ⟨_, s.ring, _, rfl, h ▸ .load⟩
  · next q h => exact ⟨_, _, _, rfl, h ▸ .publish q⟩

/-- R441: a step of a push keeps what holds of the ring, whatever the pull in progress. -/
theorem PushStep.holds {view : Nat → Nat} {p : Params} {g g' : Ring} {producer producer' : Producer} {consumer : Consumer}
    (hcap : p.ringCapOk = true) (hstep : PushStep view p g producer g' producer') (h : RingHolds p g producer consumer) :
    RingHolds p g' producer' consumer := by
  obtain ⟨hslots, hlast, hind, hprod, hcons⟩ := h
  cases hstep with
  | rest => exact ⟨hslots, hlast, hind, trivial, hcons⟩
  | done n => exact ⟨hslots, hlast, hind, trivial, hcons⟩
  | full q rest n hf =>
    exact ⟨hslots, hlast, indices_observeRead view hind, trivial, (consumerOk_congr rfl rfl rfl consumer).2 hcons⟩
  | room q rest n hf =>
    obtain ⟨hq, hrest⟩ := List.forall_mem_cons.1 hprod
    have hind' := indices_observeRead view hind
    exact ⟨hslots, hlast, hind', ⟨hq, hrest, room_of_not_looksFull hind' hf⟩, (consumerOk_congr rfl rfl rfl consumer).2 hcons⟩
  | store q rest n =>
    obtain ⟨hq, hrest, hroom⟩ := hprod
    obtain ⟨k, hk, he⟩ := ringCap_pow hcap
    have hslot : slotOf p.ringCap g.w < p.ringCap := he ▸ slotOf_lt hk g.w
    exact ⟨slotWrite_ok hslots hslot hq, hlast, hind, ⟨hq, hrest, hroom, by simp [Ring.store, slotRead_write]⟩,
      consumerOk_store hcap hind (used_lt_of_room hind hroom) q hcons⟩
  | publish q rest n =>
    obtain ⟨-, hrest, hroom, -⟩ := hprod
    exact ⟨hslots, hlast, indices_publishWrite (ringCap_le hcap) hind hroom, hrest, (consumerOk_congr rfl rfl rfl consumer).2 hcons⟩

/-- R441: a step of a pull keeps what holds of the ring, whatever the push in progress. -/
theorem PullStep.holds {view : Nat → Nat} {p : Params} {g g' : Ring} {producer : Producer} {consumer consumer' : Consumer}
    {a : Option Elem} (hcap : p.ringCapOk = true) (hstep : PullStep view p g consumer a g' consumer')
    (h : RingHolds p g producer consumer) : RingHolds p g' producer consumer' := by
  obtain ⟨hslots, hlast, hind, hprod, hcons⟩ := h
  cases hstep with
  | empty he =>
    exact ⟨hslots, hlast, indices_observeWrite view hind, (producerOk_congr rfl rfl rfl producer).2 hprod, trivial⟩
  | observe he =>
    exact ⟨hslots, hlast, indices_observeWrite view hind, (producerOk_congr rfl rfl rfl producer).2 hprod, by
      simpa [Ring.looksEmpty, ConsumerOk] using he⟩
  | load => exact ⟨hslots, hlast, hind, hprod, hcons, rfl⟩
  | publish q =>
    obtain ⟨hseen, hslot⟩ := hcons
    exact ⟨hslots, hslot ▸ slotRead_ok hslots _, indices_publishRead (ringCap_le hcap) q hind hseen,
      (producerOk_congr rfl rfl rfl producer).2 hprod, trivial⟩

/-- R439: the whole push keeps what holds of the ring: each turn of its loop is a view, a slot write and a publication. -/
theorem ringHolds_pushLoop {p : Params} (hcap : p.ringCapOk = true) {consumer : Consumer} (view : Nat → Nat) (es : List Elem)
    (n : Nat) {g : Ring} (h : RingHolds p g (.observing es n) consumer) :
    RingHolds p (Ring.pushLoop view p.ringCap es n g).2 .idle consumer := by
  induction es generalizing n g with
  | nil => exact (PushStep.done (view := view) n).holds hcap h
  | cons q rest ih =>
    unfold Ring.pushLoop
    split
    · next hf => exact (PushStep.full q rest n hf).holds hcap h
    · next hf =>
      have h1 := (PushStep.room q rest n (Bool.eq_false_iff.2 hf)).holds hcap h
      have h2 := (PushStep.store (view := view) q rest n).holds hcap h1
      exact ih (n + 1) ((PushStep.publish (view := view) q rest n).holds hcap h2)

/-- R440: the whole pull keeps what holds of the ring: it is a view that finds nothing, or a view, a slot read and a publication. -/
theorem ringHolds_pull {p : Params} (hcap : p.ringCapOk = true) {producer : Producer} (view : Nat → Nat) {g : Ring}
    (h : RingHolds p g producer .idle) : RingHolds p (Ring.pull view p.ringCap p.ringBits g).2 producer .idle := by
  unfold Ring.pull
  split
  · next he => exact (PullStep.empty he).holds hcap h
  · next he =>
    have h1 := (PullStep.observe (Bool.eq_false_iff.2 he)).holds hcap h
    have h2 := (PullStep.load (view := view)).holds hcap h1
    exact (PullStep.publish (view := view) _).holds hcap h2

end Sys2Proof.Machine

/-! ## 48_audio_pipeline.md, 70_reset_and_hazards.md: every move keeps the invariant -/

namespace Sys2Proof.Machine

/-- R437, R438: what a push appends are elements. -/
theorem pushElements_ok {p : Params} (hbits : p.ringBits ≤ 16) (buf : List Sample) (count channels : Nat) :
    ∀ q ∈ pushElements p buf count channels, ElemOk p.ringBits q := by
  intro q hq
  obtain ⟨v, -, rfl⟩ := List.mem_map.1 hq
  exact scaleSample_ok hbits v

/-- R439: a push is about to append its elements, before its first view of the read index. -/
theorem State.Inv.beginsPush {s : State} (hi : s.Inv) (buf : List Sample) (count channels : Nat) :
    RingHolds s.params s.ring (.observing (pushElements s.params buf count channels) 0) s.consumer := by
  obtain ⟨-, -, -, -, -, ⟨-, -, -, -, -, hbits⟩, hslots, hlast, hind, -, hcons⟩ := hi
  exact ⟨hslots, hlast, hind, pushElements_ok hbits buf count channels, hcons⟩

theorem producerMove_inv {s : State} (hi : s.Inv) : (producerMove s).2.Inv := by
  obtain ⟨g, producer, he, hstep⟩ := producerMove_pushStep s
  rw [he]
  exact hi.withRing (hstep.holds hi.ringCapOk hi.ringHolds)

theorem consumerMove_inv {s : State} (hi : s.Inv) : (consumerMove s).2.Inv := by
  obtain ⟨a, g, consumer, he, hstep⟩ := consumerMove_pullStep s
  rw [he]
  exact hi.withRing (hstep.holds hi.ringCapOk hi.ringHolds)

theorem pushToRing_inv {s : State} (hi : s.Inv) (hidle : s.producer = .idle) (buf : List Sample) (count channels : Nat) :
    (pushToRing buf count channels s).2.Inv := by
  have h := ringHolds_pushLoop hi.ringCapOk Config.readIndexView _ _ (hi.beginsPush buf count channels)
  rw [← hidle] at h
  exact hi.withRing h

theorem pullSample_inv {s : State} (hi : s.Inv) (hidle : s.consumer = .idle) : (pullSample s).2.Inv := by
  have h := hi.ringHolds
  rw [hidle] at h
  have h' := ringHolds_pull hi.ringCapOk Config.writeIndexView h
  rw [← hidle] at h'
  exact hi.withRing h'

theorem beginPush_inv {s : State} (hi : s.Inv) (hidle : s.producer = .idle) (buf : List Sample) (count channels : Nat) :
    (beginPush buf count channels s).Inv := by
  rw [beginPush, hidle]
  exact hi.withRing (hi.beginsPush buf count channels)

/-- R430, R50: only the fraction is kept in the accumulator. -/
theorem frameDueSamples_inv {s : State} (hi : s.Inv) : (frameDueSamples s).2.Inv := by
  obtain ⟨hp, hram, hfile, hsession, -, hhost, hring⟩ := hi
  refine ⟨hp, hram, hfile, hsession, ?_, hhost, hring⟩
  show ((s.acc + BitVec.ofNat 32 (sampleIncrement s.params)) &&& 0x0000FFFF).toNat < 65536
  rw [BitVec.toNat_and]
  exact lt_of_le_of_lt Nat.and_le_right (by decide)

/-- R433: `render_frame` where more samples are due than fit. -/
theorem renderFrame_tooSmall (buf : List Byte) {capacity : Nat} {s : State} (h : capacity < (frameDueSamples s).1) :
    renderFrame buf capacity s = (.tooSmall, (frameDueSamples s).2) :=
  if_pos h

/-- R433, R434: `render_frame` where the samples due fit: they are rendered, one draw each, and converted in place. -/
theorem renderFrame_rendered (buf : List Byte) {capacity : Nat} {s : State} (h : (frameDueSamples s).1 ≤ capacity) :
    renderFrame buf capacity s =
      (.rendered (frameDueSamples s).1 (convertInPlace s.params.hostOrder (frameDueSamples s).1
          (renderSamples (frameDueSamples s).1 (frameDueSamples s).2.draws buf)),
        { (frameDueSamples s).2 with draws := (frameDueSamples s).2.draws + (frameDueSamples s).1 }) :=
  if_neg (Nat.not_lt.2 h)

theorem renderFrame_inv {s : State} (hi : s.Inv) (buf : List Byte) (capacity : Nat) : (renderFrame buf capacity s).2.Inv := by
  rcases lt_or_ge capacity (frameDueSamples s).1 with h | h
  · rw [renderFrame_tooSmall buf h]
    exact frameDueSamples_inv hi
  · rw [renderFrame_rendered buf h]
    exact CpuEffect.inv (CpuEffect.keep rfl) (frameDueSamples_inv hi)

/-- R49: the session is not the CPU's. -/
theorem CpuEffect.session_eq {s t : State} (h : CpuEffect s t) : t.session = s.session := by
  obtain ⟨hframe, -, -⟩ := h
  rw [hframe]

/-- R534: the loop of a launch keeps the invariant of a session with a song loaded, which a step leaves as it is. -/
theorem launchLoop_inv (fuel budget start : Nat) {s : State} (hi : s.Inv) (hl : s.session.loaded = true) :
    (launchLoop fuel budget start s).2.Inv := by
  induction fuel generalizing s with
  | zero => exact setStatus_inv hi _ hl
  | succ fuel ih =>
    have hstep := effect_stepState s
    have hi' : (stepState s).Inv := hstep.inv hi
    have hl' : (stepState s).session.loaded = true := by rw [hstep.session_eq, hl]
    unfold launchLoop
    dsimp only
    split_ifs
    · exact setStatus_inv hi _ hl
    · exact setStatus_inv hi' _ hl'
    · exact setStatus_inv hi' _ hl'
    · exact ih hi' hl'

theorem launch_inv (budget : Nat) {s : State} (hi : s.Inv) (hl : s.session.loaded = true) : (launch budget s).2.Inv :=
  launchLoop_inv budget budget s.cycles (setStatus_inv hi _ hl) hl

/-- R530: a song loaded is in the session. -/
theorem loadSong_loaded (n : Nat) (s : State) : (loadSong n s).session.loaded = true := by
  rw [(effect_loadSong n s).session_eq]

theorem runInitOf_inv {f : SongFile} {s : State} (hi : s.Inv) (hf : f.wellFormed) (n : Nat) : (runInitOf f n s).2.Inv := by
  have hinit := initSongOf_inv hi hf n
  unfold runInitOf
  rw [initSongOf_eq] at hinit ⊢
  by_cases h : 1 ≤ n ∧ n ≤ f.totalSongs
  · rw [if_pos h] at hinit ⊢
    exact launch_inv _ hinit (loadSong_loaded n _)
  · rw [if_neg h]
    exact hi

theorem runPlayFrame_inv {s : State} (hi : s.Inv) : (runPlayFrame s).2.Inv := by
  unfold runPlayFrame
  cases hl : s.session.loaded with
  | false => exact hi
  | true =>
    cases s.jammed with
    | true => exact setStatus_inv hi _ hl
    | false =>
      have heff : CpuEffect s (setup s.params.file.playAddr (writeTrap s)) := (effect_writeTrap s).trans (effect_setup _ _)
      exact launch_inv _ (heff.inv hi) (by rw [heff.session_eq, hl])

theorem effect_nmi (s : State) : CpuEffect s (nmi s) := by
  unfold nmi
  split
  · exact CpuEffect.refl s
  · exact effect_interrupt nmiVector s

theorem effect_irq (s : State) : CpuEffect s (irq s) := by
  unfold irq
  split
  · exact CpuEffect.refl s
  · exact effect_interrupt irqVector s

section Answers
variable (s : State)

theorem act_initSong_snd (f : SongFile) (n : Nat) : (act (.initSong f n) s).2 = (initSongOf f n s).2 := by
  simp only [act]
  split <;> simp [*]

theorem act_renderFrame_snd (buf : List Byte) (capacity : Nat) :
    (act (.renderFrame buf capacity) s).2 = (renderFrame buf capacity s).2 := by
  simp only [act]
  split <;> simp [*]

theorem act_producerMove_snd : (act .producerMove s).2 = (producerMove s).2 := by
  simp only [act]
  split <;> simp [*]

theorem act_consumerMove_snd : (act .consumerMove s).2 = (consumerMove s).2 := by
  simp only [act]
  split <;> simp [*]

end Answers

/-- Settles O43, move by move: what the CPU does (`CpuEffect.inv`), a launch (`launch_inv`), the accumulator, and the steps of a push and of
a pull (`PushStep.holds`, `PullStep.holds`), one at a time or put together. -/
theorem everyMoveKeepsTheInvariant : Obligations.EveryMoveKeepsTheInvariant := by
  intro m s hi hm
  cases m with
  | reset => exact (effect_resetCpu s).inv hi
  | step => exact (effect_stepState s).inv hi
  | run target => exact (effect_runLoop target target s.cycles s).inv hi
  | nmi => exact (effect_nmi s).inv hi
  | irq => exact (effect_irq s).inv hi
  | initSong f n =>
    obtain ⟨-, hf⟩ := hm
    exact act_initSong_snd s f n ▸ initSongOf_inv hi hf n
  | runInit f n =>
    obtain ⟨-, hf⟩ := hm
    exact runInitOf_inv hi hf n
  | runPlayFrame => exact runPlayFrame_inv hi
  | frameDueSamples => exact frameDueSamples_inv hi
  | renderFrame buf capacity => exact act_renderFrame_snd s buf capacity ▸ renderFrame_inv hi buf capacity
  | pushToRing buf count channels => exact pushToRing_inv hi hm buf count channels
  | pullSample => exact pullSample_inv hi hm
  | beginPush buf count channels => exact beginPush_inv hi hm buf count channels
  | producerMove => exact act_producerMove_snd s ▸ producerMove_inv hi
  | consumerMove => exact act_consumerMove_snd s ▸ consumerMove_inv hi

end Sys2Proof.Machine

/-! ## 48_audio_pipeline.md: the ring is a bounded queue -/

namespace Sys2Proof.Machine

/-- R441: the queue has as many elements as the indices are apart. -/
theorem length_queue (cap bits : Nat) (g : Ring) : (g.queue cap bits).length = g.used := by
  simp [Ring.queue]

/-- R442: a step of a push appends the element it publishes, and otherwise leaves the queue. -/
theorem PushStep.queue_eq {view : Nat → Nat} {p : Params} {g g' : Ring} {producer producer' : Producer} {consumer : Consumer}
    (hcap : p.ringCapOk = true) (hstep : PushStep view p g producer g' producer') (h : RingHolds p g producer consumer) :
    (∀ e rest n, producer = .publishing e rest n → g'.queue p.ringCap p.ringBits = g.queue p.ringCap p.ringBits ++ [e]) ∧
    ((∀ e rest n, producer ≠ .publishing e rest n) → g'.queue p.ringCap p.ringBits = g.queue p.ringCap p.ringBits) := by
  obtain ⟨-, -, hind, hprod, -⟩ := h
  cases hstep with
  | rest => exact ⟨nofun, fun _ => rfl⟩
  | done n => exact ⟨nofun, fun _ => rfl⟩
  | full q rest n hf => exact ⟨nofun, fun _ => rfl⟩
  | room q rest n hf => exact ⟨nofun, fun _ => rfl⟩
  | store q rest n =>
    obtain ⟨-, -, hroom⟩ := hprod
    exact ⟨nofun, fun _ => queue_store_of_room hcap _ q (used_lt_of_room hind hroom)⟩
  | publish q rest n =>
    obtain ⟨-, -, hroom, hslot⟩ := hprod
    refine ⟨fun e rest' n' he => ?_, fun hne => absurd rfl (hne q rest n)⟩
    cases he
    rw [queue_publishWrite (ringCap_le hcap) _ (used_lt_of_room hind hroom), hslot]

/-- R442: a step of a pull answers and removes the oldest element where it publishes, and otherwise leaves the queue. -/
theorem PullStep.queue_eq {view : Nat → Nat} {p : Params} {g g' : Ring} {producer : Producer} {consumer consumer' : Consumer}
    {a : Option Elem} (hstep : PullStep view p g consumer a g' consumer') (h : RingHolds p g producer consumer) :
    (∀ e, consumer = .publishing e → a = some e ∧ g.queue p.ringCap p.ringBits = e :: g'.queue p.ringCap p.ringBits) ∧
    ((∀ e, consumer ≠ .publishing e) → g'.queue p.ringCap p.ringBits = g.queue p.ringCap p.ringBits) := by
  obtain ⟨-, -, hind, -, hcons⟩ := h
  cases hstep with
  | empty he => exact ⟨nofun, fun _ => rfl⟩
  | observe he => exact ⟨nofun, fun _ => rfl⟩
  | load => exact ⟨nofun, fun _ => rfl⟩
  | publish q =>
    obtain ⟨hseen, hslot⟩ := hcons
    refine ⟨fun e he => ?_, fun hne => absurd rfl (hne q)⟩
    cases he
    rw [queue_publishRead _ _ q (write_ne_read_of_seen hind hseen), hslot]
    exact ⟨rfl, rfl⟩

/-- R440: an element answered is the last one afterwards. -/
theorem PullStep.last_eq {view : Nat → Nat} {p : Params} {g g' : Ring} {consumer consumer' : Consumer} {e : Elem}
    (hstep : PullStep view p g consumer (some e) g' consumer') : g'.last = e := by
  cases hstep <;> rfl

/-- Settles O56: the two sides move by steps of a push and of a pull, whose effect on the queue is `PushStep.queue_eq` and
`PullStep.queue_eq`. -/
theorem ringIsABoundedQueue : Obligations.RingIsABoundedQueue := by
  intro s hi q
  obtain ⟨g, producer, hpush, hpushStep⟩ := producerMove_pushStep s
  obtain ⟨a, g', consumer, hpull, hpullStep⟩ := consumerMove_pullStep s
  obtain ⟨happend, hkeep⟩ := hpushStep.queue_eq hi.ringCapOk hi.ringHolds
  obtain ⟨htake, hkeep'⟩ := hpullStep.queue_eq hi.ringHolds
  rw [hpush, hpull]
  refine ⟨?_, happend, hkeep, htake, hkeep', ?_⟩
  · obtain ⟨-, -, ⟨hused, -⟩, -⟩ := hi.ringHolds
    exact (length_queue _ _ _).trans_le hused
  · rintro e rfl
    exact hpullStep.last_eq

end Sys2Proof.Machine

/-! ## 48_audio_pipeline.md: what a whole push stores -/

namespace Sys2Proof.Machine

/-- R439: one turn of the loop of a push, where the ring does not look full: a view, the slot write, the publication. -/
def Ring.append (view : Nat → Nat) (cap : Nat) (q : Elem) (g : Ring) : Ring :=
  ((g.observeRead view).store cap q).publishWrite

theorem pushLoop_full {view : Nat → Nat} {cap : Nat} {g : Ring} (h : (g.observeRead view).looksFull cap = true) (q : Elem)
    (rest : List Elem) (n : Nat) : Ring.pushLoop view cap (q :: rest) n g = (n, g.observeRead view) :=
  if_pos h

theorem pushLoop_room {view : Nat → Nat} {cap : Nat} {g : Ring} (h : (g.observeRead view).looksFull cap = false) (q : Elem)
    (rest : List Elem) (n : Nat) :
    Ring.pushLoop view cap (q :: rest) n g = Ring.pushLoop view cap rest (n + 1) (g.append view cap q) :=
  if_neg (Bool.eq_false_iff.1 h)

/-- R441: a ring that does not look full is not full, as the view is behind. -/
theorem used_lt_of_not_looksFull {view : Nat → Nat} {cap : Nat} {g : Ring} (hind : IndicesOk cap g)
    (hf : (g.observeRead view).looksFull cap = false) : g.used < cap :=
  have hind' := indices_observeRead view hind
  used_lt_of_room (g := g.observeRead view) hind' (room_of_not_looksFull hind' hf)

section Append
variable {view : Nat → Nat} {p : Params} {g : Ring} (hcap : p.ringCapOk = true) (hind : IndicesOk p.ringCap g)
  (hf : (g.observeRead view).looksFull p.ringCap = false)
include hcap hind hf

theorem indicesOk_append (q : Elem) : IndicesOk p.ringCap (g.append view p.ringCap q) :=
  have hind' := indices_observeRead view hind
  indices_publishWrite (ringCap_le hcap) (g := (g.observeRead view).store p.ringCap q) hind' (room_of_not_looksFull hind' hf)

/-- R441: a turn uses one place more. -/
theorem used_append (q : Elem) : (g.append view p.ringCap q).used = g.used + 1 := by
  have hle := ringCap_le hcap
  have hu := used_lt_of_not_looksFull hind hf
  exact dist_advance_far g.w g.r 1 (by rw [Ring.used] at hu; omega)

/-- R442: a turn appends its element to the queue. -/
theorem queue_append (bits : Nat) (q : Elem) :
    (g.append view p.ringCap q).queue p.ringCap bits = g.queue p.ringCap bits ++ [q] := by
  have hu : g.used < p.ringCap := used_lt_of_not_looksFull hind hf
  rw [Ring.append, queue_publishWrite (ringCap_le hcap) bits (g := (g.observeRead view).store p.ringCap q) hu,
    queue_store_of_room hcap bits (g := g.observeRead view) q hu]
  show _ ++ [slotRead bits (slotWrite g.slots (slotOf p.ringCap g.w) q) (slotOf p.ringCap g.w)] = _
  rw [slotRead_write, if_pos rfl]
  rfl

end Append

/-- R443: what a push stores: `k` elements more, the first ones of the call, never more than the free space. -/
theorem pushLoop_stores {p : Params} (hcap : p.ringCapOk = true) (bits : Nat) (view : Nat → Nat) (es : List Elem) (n : Nat)
    {g : Ring} (hind : IndicesOk p.ringCap g) : ∃ k, (Ring.pushLoop view p.ringCap es n g).1 = n + k ∧ k ≤ es.length ∧
      g.used + k ≤ p.ringCap ∧ (Ring.pushLoop view p.ringCap es n g).2.queue p.ringCap bits = g.queue p.ringCap bits ++ es.take k := by
  have hused : g.used ≤ p.ringCap := hind.1
  induction es generalizing n g with
  | nil => exact ⟨0, rfl, le_rfl, hused, (List.append_nil _).symm⟩
  | cons q rest ih =>
    cases hf : (g.observeRead view).looksFull p.ringCap with
    | true =>
      rw [pushLoop_full hf]
      exact ⟨0, rfl, Nat.zero_le _, hused, (List.append_nil _).symm⟩
    | false =>
      have hind' := indicesOk_append hcap hind hf q
      obtain ⟨k, hn, hlen, hfree, hqueue⟩ := ih (n + 1) hind' hind'.1
      rw [used_append hcap hind hf] at hfree
      rw [queue_append hcap hind hf, List.append_assoc, List.singleton_append] at hqueue
      rw [pushLoop_room hf]
      exact ⟨k + 1, by rw [hn]; ring, Nat.succ_le_succ hlen, by omega, hqueue⟩

/-- R92: a view that never catches up leaves the read index seen as it is. -/
theorem rSeen_observeRead {view : Nat → Nat} (hview : ∀ n, view n = 0) (g : Ring) : (g.observeRead view).rSeen = g.rSeen := by
  simp [Ring.observeRead, viewIndex, hview]

/-- R443: with the view of the read index fixed, a push stores as many elements as there are slots free by that view. -/
theorem pushLoop_fixedView {p : Params} (hcap : p.ringCapOk = true) {view : Nat → Nat} (hview : ∀ n, view n = 0) (es : List Elem)
    (n : Nat) {g : Ring} (hind : IndicesOk p.ringCap g) :
    (Ring.pushLoop view p.ringCap es n g).1 = n + min es.length (p.ringCap - (g.w - g.rSeen).toNat) := by
  induction es generalizing n g with
  | nil => simp [Ring.pushLoop]
  | cons q rest ih =>
    have hseen := rSeen_observeRead hview g
    cases hf : (g.observeRead view).looksFull p.ringCap with
    | true =>
      have hfull : (g.w - g.rSeen).toNat = p.ringCap := by
        rw [Ring.looksFull, hseen] at hf
        exact beq_iff_eq.1 hf
      rw [pushLoop_full hf, hfull, Nat.sub_self, Nat.min_zero, Nat.add_zero]
    | false =>
      have hroom := room_of_not_looksFull (indices_observeRead view hind) hf
      rw [hseen] at hroom
      have hroom' : (g.w - g.rSeen).toNat < p.ringCap := hroom
      have hle := ringCap_le hcap
      have hdist : ((g.append view p.ringCap q).w - (g.append view p.ringCap q).rSeen).toNat = (g.w - g.rSeen).toNat + 1 := by
        show (g.w + 1 - (g.observeRead view).rSeen).toNat = _
        rw [hseen]
        exact dist_advance_far g.w g.rSeen 1 (by omega)
      rw [pushLoop_room hf, ih (n + 1) (indicesOk_append hcap hind hf q), hdist, List.length_cons]
      omega

/-- Settles O57: `pushLoop_stores`, and `pushLoop_fixedView` for a fixed view. -/
theorem pushStoresThePrefixThatFits : Obligations.PushStoresThePrefixThatFits := by
  intro view s es hi cap r
  obtain ⟨-, -, hind, -⟩ := hi.ringHolds
  obtain ⟨k, hk, hlen, hfree, hqueue⟩ := pushLoop_stores hi.ringCapOk s.params.ringBits view es 0 hind
  rw [Nat.zero_add] at hk
  have hr : r.1 = k := hk
  rw [hr]
  exact ⟨hlen, by omega, hqueue, fun hview => by
    rw [← hr, ← Nat.zero_add (min _ _)]; exact pushLoop_fixedView hi.ringCapOk hview es 0 hind⟩

end Sys2Proof.Machine

/-! ## 48_audio_pipeline.md: the samples due and their rendering -/

namespace Sys2Proof.Machine

/-- R431: INC leaves an accumulator that keeps only a fraction below 2^32. -/
theorem sampleIncrement_lt {p : Params} (h : p.sampleRate ≤ 65535) : sampleIncrement p < 2 ^ 32 - 65536 := by
  unfold sampleIncrement
  omega

/-- R430, R432: one call in numbers: the whole part is due, and the fraction is kept. -/
theorem frameDueSamples_toNat {s : State} (hacc : s.acc.toNat < 65536) (hrate : s.params.sampleRate ≤ 65535) :
    (frameDueSamples s).1 = (s.acc.toNat + sampleIncrement s.params) / 65536 ∧
      (frameDueSamples s).2.acc.toNat = (s.acc.toNat + sampleIncrement s.params) % 65536 := by
  have hinc := sampleIncrement_lt hrate
  have hsum : (s.acc + BitVec.ofNat 32 (sampleIncrement s.params)).toNat = s.acc.toNat + sampleIncrement s.params :=
    index_add_nat s.acc _ (by omega)
  constructor
  · show ((s.acc + BitVec.ofNat 32 (sampleIncrement s.params)) >>> 16).toNat = _
    rw [BitVec.toNat_ushiftRight, hsum, Nat.shiftRight_eq_div_pow]
  · show ((s.acc + BitVec.ofNat 32 (sampleIncrement s.params)) &&& 0x0000FFFF).toNat = _
    rw [BitVec.toNat_and, hsum]
    exact Nat.and_two_pow_sub_one_eq_mod _ 16

/-- R432: `n` calls in numbers, by induction: what one call keeps is what the next one starts from. -/
theorem dueOver_toNat (n : Nat) {s : State} {inc : Nat} (hacc : s.acc.toNat < 65536) (hrate : s.params.sampleRate ≤ 65535)
    (hinc : sampleIncrement s.params = inc) :
    (dueOver n s).1 = (s.acc.toNat + n * inc) / 65536 ∧ (dueOver n s).2.acc.toNat = (s.acc.toNat + n * inc) % 65536 := by
  induction n generalizing s with
  | zero => simp [dueOver, Nat.div_eq_of_lt hacc, Nat.mod_eq_of_lt hacc]
  | succ n ih =>
    obtain ⟨hdue, hkept⟩ := frameDueSamples_toNat hacc hrate
    obtain ⟨hsum, hrest⟩ := ih (s := (frameDueSamples s).2) (by rw [hkept]; exact Nat.mod_lt _ (by decide)) hrate hinc
    rw [hinc] at hdue hkept
    rw [hkept] at hsum hrest
    simp only [dueOver]
    rw [hsum, hrest, hdue, Nat.succ_mul]
    omega

/-- Settles O52: `dueOver_toNat` at INC. -/
theorem dueSamplesAddUpExactly : Obligations.DueSamplesAddUpExactly :=
  fun n _ hacc hrate => dueOver_toNat n hacc hrate rfl

/-- R435: a sample in numbers. -/
theorem convertSample_toInt (u : Byte) : (convertSample u).toInt = ((u.toNat : Int) - 128) * 256 := by revert u; decide

/-- R435: the bytes of the samples converted, and of one more. -/
theorem convertedBytes_succ (o : ByteOrder) {buf : List Byte} {n : Nat} (h : n < buf.length) :
    convertedBytes o buf (n + 1) = convertedBytes o buf n ++
      [(sampleBytes o (convertSample (buf.getD n 0x00))).1, (sampleBytes o (convertSample (buf.getD n 0x00))).2] := by
  rw [convertedBytes, List.take_succ_eq_append_getElem h, List.flatMap_append, List.flatMap_singleton,
    List.getD_eq_getElem _ _ h, convertedBytes]

/-- R436: storing sample `n` leaves the bytes before offset `2n`. -/
theorem take_storeSample (o : ByteOrder) (buf : List Byte) {i n : Nat} (h : i ≤ 2 * n) (v : Sample) :
    (storeSample o buf n v).take i = buf.take i := by
  rw [storeSample, List.take_set_of_le (by omega), List.take_set_of_le h]

/-- R436: from offset `2n` on, storing sample `n` leaves its two bytes and then the rest. -/
theorem drop_storeSample (o : ByteOrder) {buf : List Byte} {n : Nat} (h : 2 * n + 2 ≤ buf.length) (v : Sample) :
    (storeSample o buf n v).drop (2 * n) = (sampleBytes o v).1 :: (sampleBytes o v).2 :: buf.drop (2 * n + 2) := by
  have hd : buf.drop (2 * n) = buf[2 * n] :: buf[2 * n + 1] :: buf.drop (2 * n + 2) := by
    rw [List.drop_eq_getElem_cons (by omega), List.drop_eq_getElem_cons (i := 2 * n + 1) (by omega)]
  rw [storeSample, List.drop_set, List.drop_set, if_neg (by omega), if_neg (by omega), hd, Nat.sub_self,
    Nat.add_sub_cancel_left]
  rfl

theorem length_storeSample (o : ByteOrder) (buf : List Byte) (n : Nat) (v : Sample) :
    (storeSample o buf n v).length = buf.length := by
  simp [storeSample]

/-- R436: going back to front, the two bytes written for a sample lie past every byte still to be converted. -/
theorem convertInPlace_eq (o : ByteOrder) (n : Nat) {buf : List Byte} (h : 2 * n ≤ buf.length) :
    convertInPlace o n buf = convertedBytes o buf n ++ buf.drop (2 * n) := by
  induction n generalizing buf with
  | zero => rfl
  | succ n ih =>
    have hbytes (v : Sample) : convertedBytes o (storeSample o buf n v) n = convertedBytes o buf n := by
      rw [convertedBytes, take_storeSample o buf (by omega), convertedBytes]
    rw [convertInPlace, ih (by rw [length_storeSample]; omega), hbytes, drop_storeSample o (by omega),
      convertedBytes_succ o (by omega), List.append_assoc]
    rfl

/-- Settles O53: `convertInPlace_eq` and `convertSample_toInt`. -/
theorem inPlaceConversionLosesNoSample : Obligations.InPlaceConversionLosesNoSample :=
  fun o n _ h => ⟨convertInPlace_eq o n h, convertSample_toInt⟩

/-- R435: a converted sample is two bytes. -/
theorem length_convertedBytes (o : ByteOrder) {buf : List Byte} {n : Nat} (h : n ≤ buf.length) :
    (convertedBytes o buf n).length = 2 * n := by
  simp [convertedBytes, List.length_flatMap, h]
  ring

/-- R434: rendering writes the first bytes of the buffer in place. -/
theorem length_renderSamples {n : Nat} (draws : Nat) {buf : List Byte} (h : n ≤ buf.length) :
    (renderSamples n draws buf).length = buf.length := by
  simp [renderSamples, h]

theorem drop_renderSamples {n i : Nat} (h : n ≤ i) (draws : Nat) (buf : List Byte) :
    (renderSamples n draws buf).drop i = buf.drop i := by
  simp [renderSamples, List.drop_append, h]

/-- Settles O54, along the two outcomes of `render_frame`; the samples due, where they fit, are rendered and converted in place. -/
theorem renderFrameAdvancesEitherWay : Obligations.RenderFrameAdvancesEitherWay := by
  intro buf capacity s
  refine ⟨?_, fun h => by rw [renderFrame_tooSmall buf h], fun h hlen => ?_⟩
  · rcases lt_or_ge capacity (frameDueSamples s).1 with h | h
    · rw [renderFrame_tooSmall buf h]
    · rw [renderFrame_rendered buf h]
  · rw [renderFrame_rendered buf h]
    have hr := length_renderSamples (n := (frameDueSamples s).1) (frameDueSamples s).2.draws (buf := buf) (by omega)
    have hc := length_convertedBytes s.params.hostOrder (n := (frameDueSamples s).1)
      (buf := renderSamples (frameDueSamples s).1 (frameDueSamples s).2.draws buf) (by omega)
    rw [convertInPlace_eq _ _ (by omega), drop_renderSamples (by omega)]
    refine ⟨_, ?_, rfl, ?_⟩
    · rw [List.length_append, hc, List.length_drop]
      omega
    · rw [← hc, List.drop_left]

end Sys2Proof.Machine

/-! ## 48_audio_pipeline.md: mix, offset and scale -/

namespace Sys2Proof.Machine

/-- R438: a sample offset by 32768 and shifted down to `bits` bits, before the clamp. -/
def scaled (bits : Nat) (v : Int) : Int := (v + 32768) / 2 ^ (16 - bits)

/-- R438: the offset sample is a 16-bit number, and what is left of it after the shift has `bits` bits. -/
theorem scaled_range {bits : Nat} (hbits : bits ≤ 16) {v : Int} (hlo : -32768 ≤ v) (hhi : v < 32768) :
    0 ≤ scaled bits v ∧ scaled bits v ≤ 2 ^ bits - 1 := by
  have hpow : (2 : Int) ^ bits * 2 ^ (16 - bits) = 65536 := by
    rw [← pow_add, Nat.add_sub_cancel' hbits]; rfl
  have hpos : (0 : Int) < 2 ^ (16 - bits) := by positivity
  refine ⟨Int.ediv_nonneg (by omega) hpos.le, ?_⟩
  have hlt : scaled bits v < 2 ^ bits := Int.ediv_lt_of_lt_mul hpos (by rw [hpow]; omega)
  omega

theorem sample_range (v : Sample) : -32768 ≤ v.toInt ∧ v.toInt < 32768 :=
  ⟨BitVec.le_toInt v, BitVec.toInt_lt⟩

/-- R438: the clamp changes nothing, and the element is the scaled sample. -/
theorem scaleSample_toNat {bits : Nat} (hbits : bits ≤ 16) (v : Sample) :
    (scaleSample bits v).toNat = (scaled bits v.toInt).toNat := by
  obtain ⟨hlo, hhi⟩ := sample_range v
  obtain ⟨h0, h1⟩ := scaled_range hbits hlo hhi
  have hp : (2 : Int) ^ bits ≤ 2 ^ 16 := pow_le_pow_right₀ (by decide) hbits
  have hclamp : max 0 (min (scaled bits v.toInt) (2 ^ bits - 1)) = scaled bits v.toInt := by
    rw [min_eq_left h1, max_eq_right h0]
  unfold scaleSample
  rw [← scaled, hclamp, BitVec.toNat_ofInt]
  omega

/-- R437: the average of two samples is a sample. -/
theorem mixPair_toInt (l r : Sample) : (mixPair l r).toInt = (l.toInt + r.toInt) / 2 := by
  obtain ⟨hl, hl'⟩ := sample_range l
  obtain ⟨hr, hr'⟩ := sample_range r
  exact BitVec.toInt_ofInt_eq_self (by decide) (by omega) (by omega)

/-- R437: the interleaved frames are half as many as the samples. -/
theorem length_mixFrames : ∀ buf : List Sample, (mixFrames buf).length = buf.length / 2
  | [] => rfl
  | [_] => by simp [mixFrames]
  | l :: r :: rest => by
    rw [mixFrames, List.length_cons, length_mixFrames rest, List.length_cons, List.length_cons]
    omega

/-- R437: the sample of frame `k` is the average of its pair. -/
theorem getElem?_mixFrames {k : Nat} {buf : List Sample} (h : 2 * k + 1 < buf.length) :
    (mixFrames buf)[k]? = some (mixPair (buf.getD (2 * k) 0) (buf.getD (2 * k + 1) 0)) := by
  induction k generalizing buf with
  | zero =>
    match buf, h with
    | l :: r :: rest, _ => rfl
  | succ k ih =>
    match buf, h with
    | l :: r :: rest, h =>
      rw [mixFrames, List.getElem?_cons_succ, ih (by simp at h; omega)]
      rfl

/-- R437, R438: the elements in numbers: the samples of the downmix, scaled. -/
theorem pushElements_toNat {p : Params} (hbits : p.ringBits ≤ 16) (buf : List Sample) (count channels : Nat) :
    (pushElements p buf count channels).map BitVec.toNat =
      (downmix buf count channels).map (fun v => (scaled p.ringBits v.toInt).toNat) := by
  rw [pushElements, List.map_map]
  exact List.map_congr_left fun v _ => scaleSample_toNat hbits v

/-- R437: in range, a sample of the first `m` is the one of the buffer. -/
theorem getD_take {buf : List Sample} {i m : Nat} (h : i < m) : (buf.take m).getD i 0 = buf.getD i 0 := by
  rw [List.getD_eq_getElem?_getD, List.getElem?_take_of_lt h, List.getD_eq_getElem?_getD]

/-- R437: two channels mix the first `2 * count` samples, pair by pair. -/
theorem getElem?_downmix_two {buf : List Sample} {count k : Nat} (hlen : 2 * count ≤ buf.length) (hk : k < count) :
    (downmix buf count 2)[k]? = some (mixPair (buf.getD (2 * k) 0) (buf.getD (2 * k + 1) 0)) := by
  have htake : (buf.take (2 * count)).length = 2 * count := List.length_take_of_le hlen
  show (mixFrames (buf.take (2 * count)))[k]? = _
  rw [getElem?_mixFrames (by omega), getD_take (by omega), getD_take (by omega)]

theorem length_downmix_two {buf : List Sample} {count : Nat} (hlen : 2 * count ≤ buf.length) :
    (downmix buf count 2).length = count := by
  show (mixFrames (buf.take (2 * count))).length = count
  rw [length_mixFrames, List.length_take_of_le hlen]
  omega

/-- R437, D39: with another channel count there is nothing to push, and the ring is not looked at. -/
theorem pushToRing_of_channels {channels : Nat} (h1 : channels ≠ 1) (h2 : channels ≠ 2) (buf : List Sample) (count : Nat)
    (s : State) : pushToRing buf count channels s = (0, s) := by
  have hnone : pushElements s.params buf count channels = [] := by
    rw [pushElements, downmix, if_neg h1, if_neg h2, List.map_nil]
  rw [pushToRing, hnone]
  rfl

/-- Settles O55: the clamp changes nothing (`pushElements_toNat`), and the samples scaled are those of the buffer or the averages of its
pairs (`mixPair_toInt`). -/
theorem pushedElementsAreMixedAndScaled : Obligations.PushedElementsAreMixedAndScaled := by
  intro s buf count _ hbits bits q es
  have hes (channels : Nat) : es channels = (downmix buf count channels).map (fun v => q v.toInt) :=
    pushElements_toNat hbits buf count channels
  refine ⟨fun v => ?_, hes 1, fun hlen => ⟨?_, fun k hk => ?_⟩, fun channels h1 h2 => pushToRing_of_channels h1 h2 buf count s⟩
  · obtain ⟨hlo, hhi⟩ := sample_range v
    exact scaled_range hbits hlo hhi
  · rw [hes, List.length_map, length_downmix_two hlen]
  · rw [hes, List.getElem?_map, getElem?_downmix_two hlen hk, Option.map_some, mixPair_toInt]

end Sys2Proof.Machine

/-! ## 60_exceptions.md: interrupt entry and return -/

namespace Sys2Proof.Machine

/-- R484: what the entry through vector `v` does to the block: PC and P with B clear and R set are pushed, I is set, PC is the word at the
vector, 7 cycles, nothing else. -/
def InterruptFrame (v : Addr) (s t : State) : Prop :=
  t.regs = (s.a, s.x, s.y, s.sp - 3) ∧ t.p = packFlags { s.flags with i := true } ∧ t.pc = (read16 v s).1 ∧
  t.trace = (read16 v s).2.trace ∧ t.draws = (read16 v s).2.draws ∧ t.cycles = s.cycles + 7 ∧
  PushesEntry s.pc ((s.p &&& 0xEF) ||| 0x20) s t ∧ KeepsBlock s t

/-- R484: the entry is `enter` at PC, with `enter_eq` for a vector above RAM. -/
theorem interrupt_frame {v : Addr} (h : ¬v < 0x2000) (h' : ¬v + 1 < 0x2000) (s : State) :
    InterruptFrame v s (interrupt v s) := by
  rw [interrupt, enter_eq s.pc s.interruptImage h h']
  exact ⟨rfl, rfl, rfl, rfl, rfl, rfl, pushesEntry_of rfl rfl, rfl, rfl, rfl, rfl, rfl, rfl, rfl⟩

/-- R485: on a CPU that is not jammed `nmi()` is taken, whatever I holds. -/
theorem nmi_running {s : State} (h : s.jammed = false) : nmi s = interrupt nmiVector s := by
  rw [nmi, h]
  rfl

theorem nmi_frame {s : State} (h : s.jammed = false) : InterruptFrame nmiVector s (nmi s) :=
  nmi_running h ▸ interrupt_frame (by decide) (by decide) s

/-- R486: on a CPU that is not jammed `irq()` looks at I. -/
theorem irq_running {s : State} (h : s.jammed = false) : irq s = if s.flags.i then s else interrupt irqVector s := by
  rw [irq, h, Bool.false_or]

/-- Settles O44: both calls look at `jammed` first (O6), `irq()` then at I (`irq_running`); what is taken is the entry of
`interrupt_frame`. -/
theorem interruptEntry : Obligations.InterruptEntry := by
  refine fun s => ⟨fun hj => ?_, fun hj => ⟨⟨_, rfl, nmi_frame hj⟩, fun hi => ?_, fun hi => ?_⟩⟩
  · obtain ⟨-, hnmi, hirq, -⟩ := jammedCpuStandsStill s hj
    exact ⟨hnmi, hirq⟩
  · rw [irq_running hj, if_pos hi]
  · rw [irq_running hj, hi]
    exact ⟨_, rfl, interrupt_frame (by decide) (by decide) s⟩

/-- R12: the return address and the image of P pushed stand in the three bytes above the new SP, whatever SP was. -/
theorem stackBytes_of_pushesEntry {ret : Addr} {image : Byte} {s t : State} (hsp : t.sp = s.sp - 3)
    (h : PushesEntry ret image s t) : stackByte t 1 = image ∧ stackByte t 2 = lo ret ∧ stackByte t 3 = hi ret := by
  have himage := peek_stackAddr t 1
  have hlow := peek_stackAddr t 2
  have hhigh := peek_stackAddr t 3
  have hsp1 : t.sp + BitVec.ofNat 8 1 = s.sp - 2 := by rw [hsp]; bv_omega
  have hsp2 : t.sp + BitVec.ofNat 8 2 = s.sp - 1 := by rw [hsp]; bv_omega
  have hsp3 : t.sp + BitVec.ofNat 8 3 = s.sp := by rw [hsp]; bv_omega
  obtain ⟨hdiffer1, hdiffer2, hdiffer3⟩ := stack_slots_differ s.sp
  rw [hsp1, h, if_pos rfl] at himage
  rw [hsp2, h] at hlow
  rw [hsp3, h] at hhigh
  simp only [sameByte, region_stack, Region.ram.injEq, hdiffer3, if_false, if_true] at hlow
  simp only [sameByte, region_stack, Region.ram.injEq, hdiffer1, hdiffer2, if_false, if_true] at hhigh
  exact ⟨(Option.some.inj himage).symm, (Option.some.inj hlow).symm, (Option.some.inj hhigh).symm⟩

/-- R490: RTI right after an entry goes to the return address pushed, with P as it was if the image pushed differs from it in bits 5 and 4
only, and with the registers as they were. -/
theorem rti_undoes_entry {ret : Addr} {image : Byte} {s t : State} (hregs : t.regs = (s.a, s.x, s.y, s.sp - 3))
    (hpush : PushesEntry ret image s t) (himage : (image &&& 0xCF) ||| 0x20 = s.p) :
    ∃ u, exec .rti t = .next u ∧ u.pc = ret ∧ u.p = s.p ∧ u.regs = s.regs := by
  obtain ⟨-, u, hrti, huregs, hup, hupc, -⟩ := returnFromInterruptRestores t
  simp only [State.regs, Prod.mk.injEq] at hregs
  obtain ⟨ha, hx, hy, hsp⟩ := hregs
  obtain ⟨hbyte1, hbyte2, hbyte3⟩ := stackBytes_of_pushesEntry hsp hpush
  refine ⟨u, hrti, ?_, ?_, ?_⟩
  · rw [hupc, hbyte2, hbyte3, wordOf_lo_hi]
  · rw [hup, hbyte1, himage]
  · have hback : s.sp - 3 + 3 = s.sp := sub_add_cancel s.sp 3
    rw [huregs, ha, hx, hy, hsp, hback, State.regs]

/-- R484, R334: pulling the image that NMI and IRQ push gives P back. -/
theorem pulled_interruptImage {p : Byte} (h : StatusOk p) : (((p &&& 0xEF) ||| 0x20) &&& 0xCF) ||| 0x20 = p := by
  revert p; decide

/-- R333, R334: so does pulling the image that BRK pushes. -/
theorem pulled_breakImage {p : Byte} (h : StatusOk p) : ((p ||| 0x30) &&& 0xCF) ||| 0x20 = p := by
  revert p; decide

/-- Settles O45: `rti_undoes_entry`, for the entry of `nmi()` and for that of BRK (O30). -/
theorem returnUndoesEntry : Obligations.ReturnUndoesEntry := by
  intro s hj hp
  constructor
  · obtain ⟨hregs, -, -, -, -, -, hpush, -⟩ := nmi_frame hj
    exact rti_undoes_entry hregs hpush (pulled_interruptImage hp)
  · obtain ⟨-, t, hbrk, hregs, -, -, -, -, -, hpush, -⟩ := breakEntersThroughItsVector s
    obtain ⟨u, hu⟩ := rti_undoes_entry hregs hpush (pulled_breakImage hp)
    exact ⟨t, u, hbrk, hu⟩

end Sys2Proof.Machine

/-! ## 70_reset_and_hazards.md: reset -/

namespace Sys2Proof.Machine

/-- R520: everything `reset()` does; the vector lies above RAM, so only the draws counted before matter to its two reads. -/
theorem resetCpu_eq (s : State) :
    resetCpu s = { resetDraws s with
      sp := 0xFD
      jammed := false
      pc := (read16 resetVector { s with draws := s.draws + 4 }).1
      trace := (read16 resetVector { s with draws := s.draws + 4 }).2.trace
      draws := (read16 resetVector { s with draws := s.draws + 4 }).2.draws } := by
  have hvector : read16 resetVector (((resetDraws s).setSP 0xFD).setJammed false) = _ :=
    read16_high (s := { s with draws := s.draws + 4 }) (by decide) (by decide) rfl rfl rfl
  show (read16 resetVector (((resetDraws s).setSP 0xFD).setJammed false)).2.setPC
    (read16 resetVector (((resetDraws s).setSP 0xFD).setJammed false)).1 = _
  rw [hvector]
  rfl

/-- R520: I is set among the flags drawn. -/
theorem resetDraws_flags (s : State) :
    (resetDraws s).flags = { flagsOf (Config.resetByte (s.draws + 3)) with i := true } := flagsOf_packFlags _

/-- Settles O46: `resetCpu_eq`; P is packed, with I set. -/
theorem resetCallSetsWhatTheSpecSays : Obligations.ResetCallSetsWhatTheSpecSays := by
  intro s
  rw [resetCpu_eq]
  exact ⟨rfl, congrArg Flags.i (resetDraws_flags s), packFlags_ok _, rfl, rfl, rfl, rfl, rfl, rfl, rfl, rfl, rfl⟩

/-- R51, D29: mid-scale is an element. -/
theorem midScale_ok {bits : Nat} (h : 1 ≤ bits) : ElemOk bits (midScale bits) := by
  rw [ElemOk, midScale, BitVec.toNat_ofNat]
  exact lt_of_le_of_lt (Nat.mod_le _ _) (Nat.pow_lt_pow_right (by decide) (by omega))

/-- R51, R521: the ring of the state after reset is empty and legal. -/
theorem ringOk_reset : RingOk State.reset :=
  ⟨⟨List.Pairwise.nil, fun _ hc => absurd hc List.not_mem_nil⟩, midScale_ok (Nat.le_add_left 1 _),
    ⟨Nat.zero_le _, Nat.zero_le _, rfl, rfl⟩, True.intro, True.intro⟩

/-- R8: the parameters of the state after reset lie in their ranges, whatever the values of the constants. -/
theorem hostOk_configParams : Config.params.hostOk := by
  refine ⟨?_, Nat.le_add_left 1 _, Config.sampleRateIndex.isLt, ?_, Nat.le_add_left 1 _, Config.ringBitsIndex.isLt⟩
  · show (BitVec.ofNat 8 Config.trapIndex.val).toNat ≤ 0xFC
    have htrap := Config.trapIndex.isLt
    rw [BitVec.toNat_ofNat]
    omega
  · exact List.any_eq_true.2 ⟨_, List.mem_range.2 Config.ringCapLog.isLt, beq_self_eq_true _⟩

/-- R8, log entry 4: the file of the state after reset has a song and an empty image. -/
theorem unmapped_wellFormed : SongFile.unmapped.wellFormed :=
  ⟨Nat.le_add_left 1 _, Memory.wf_nil, fun _ hc => absurd hc List.not_mem_nil⟩

/-- Settles O42: part by part; the parameters and the song file are in their ranges whatever their values (`hostOk_configParams`,
`unmapped_wellFormed`). -/
theorem resetMeetsTheInvariant : Obligations.ResetMeetsTheInvariant := by
  have hram : RamOk State.reset.ram := ⟨Memory.wf_nil, fun _ hc => absurd hc List.not_mem_nil⟩
  have hsession : SessionOk State.reset.params State.reset.session := ⟨fun hl => Bool.noConfusion hl, fun _ => rfl⟩
  exact ⟨by decide, hram, unmapped_wellFormed, hsession, by decide, hostOk_configParams, ringOk_reset⟩

end Sys2Proof.Machine

/-! ## 70_reset_and_hazards.md: the cycle counter -/

namespace Sys2Proof.Machine

/-- R550: counting cycles is changing what no instruction sees. -/
theorem tick_eq_unseen (k : Nat) (s : State) : s.tick k = s.unseen k s.ring s.consumer := rfl

/-- Settles O59: `exec_blind`, as an instruction leaves the ring and the pull in progress (`exec_completes`). -/
theorem cyclesAreNotRead : Obligations.CyclesAreNotRead := by
  intro i s t k h
  obtain ⟨u, hu, hframe, -, -⟩ := exec_completes i s
  have htu : t = u := Host.Outcome.next.inj (h.symm.trans hu)
  have hring : t.ring = s.ring := by rw [htu, hframe]
  have hconsumer : t.consumer = s.consumer := by rw [htu, hframe]
  rw [tick_eq_unseen, tick_eq_unseen, hring, hconsumer]
  exact exec_blind i s t h

end Sys2Proof.Machine

/-! ## 70_reset_and_hazards.md: the set-up of an entry point, and the trap -/

namespace Sys2Proof.Machine

/-- R531, R532: RAM after the trap is written and its address pushed. -/
def entryRam (trap : Byte) (m : List Host.Cell) : List Host.Cell :=
  Memory.write (Memory.write (trapRam trap m) 0x1FD 0x00) 0x1FC trap

/-- R531, R532: everything that writing the trap and the set-up of an entry point do together. -/
theorem setup_writeTrap_eq (entry : Addr) (s : State) :
    setup entry (writeTrap s) = { s with
      a := BitVec.ofNat 8 (s.session.song - 1)
      x := regionCode s.params.region
      y := 0x00
      p := 0x26
      sp := 0xFB
      pc := entry
      ram := entryRam s.params.trapAddr s.ram } := by
  rw [setup_eq, writeTrap_eq]
  rfl

/-- R531, R532: what RAM holds then, the byte written last first. -/
theorem read_entryRam (trap : Byte) (m : List Host.Cell) (i : Nat) :
    Memory.read (entryRam trap m) i =
      if i = 0x1FC then trap else if i = 0x1FD then 0x00 else if i = trap.toNat + 3 then 0x00
      else if i = trap.toNat + 2 then trap else if i = trap.toNat + 1 then 0x4C else if i = trap.toNat then 0xEA
      else Memory.read m i := by
  simp only [entryRam, trapRam, Memory.read_write]

/-- R532: no byte of the trap is overwritten: its four bytes differ, and lie below the two of its address on the stack. -/
theorem read_entryRam_trap (trap : Byte) (m : List Host.Cell) :
    Memory.read (entryRam trap m) trap.toNat = 0xEA ∧ Memory.read (entryRam trap m) (trap.toNat + 1) = 0x4C ∧
      Memory.read (entryRam trap m) (trap.toNat + 2) = trap ∧ Memory.read (entryRam trap m) (trap.toNat + 3) = 0x00 := by
  have htrap := trap.isLt
  have hfirst : trap.toNat ≠ 0x1FC ∧ trap.toNat ≠ 0x1FD := by omega
  have hrest : ∀ k, k ≤ 3 → trap.toNat + k ≠ 0x1FC ∧ trap.toNat + k ≠ 0x1FD := by omega
  simp [read_entryRam, hfirst, hrest]

/-- R531, R536: the rest of RAM is as it was. -/
theorem read_entryRam_other (trap : Byte) (m : List Host.Cell) {i : Nat} (htrap : ¬(trap.toNat ≤ i ∧ i ≤ trap.toNat + 3))
    (hlow : i ≠ 0x1FC) (hhigh : i ≠ 0x1FD) : Memory.read (entryRam trap m) i = Memory.read m i := by
  rw [read_entryRam, if_neg hlow, if_neg hhigh, if_neg (by omega), if_neg (by omega), if_neg (by omega), if_neg (by omega)]

/-- R530, D20: in RAM cleared before, the bytes of a song just loaded. -/
theorem read_entryRam_nil (trap : Byte) (i : Nat) : Memory.read (entryRam trap []) i = launchRam trap i := by
  have htrap := trap.isLt
  have hnil : Memory.read [] i = 0x00 := rfl
  rw [read_entryRam, launchRam, hnil]
  -- The two sides test the indices in another order; no index of the trap is one of the stack.
  grind

theorem regionCode_eq (r : TvRegion) : regionCode r = if r = .pal then 1 else 0 := by
  cases r <;> rfl

/-- R530: whether a song number is accepted. -/
theorem songOk_iff (p : Params) (n : Nat) : songOk p n = true ↔ 1 ≤ n ∧ n ≤ p.file.totalSongs := by
  simp [songOk]

theorem initSong_accepted {n : Nat} {s : State} (h : 1 ≤ n ∧ n ≤ s.params.file.totalSongs) :
    initSong n s = (.ok (), loadSong n s) := by
  rw [initSong, if_pos ((songOk_iff _ _).2 h)]

theorem initSong_refused {n : Nat} {s : State} (h : ¬(1 ≤ n ∧ n ≤ s.params.file.totalSongs)) :
    initSong n s = (.error .invalidSongNumber, s) := by
  rw [initSong, if_neg (mt (songOk_iff _ _).1 h)]

/-- Settles O47: a song number out of range is refused (`initSong_refused`); one in range loads the song, which is the set-up of
`setup_writeTrap_eq` in cleared RAM; the host's call is `initSongOf_eq`. -/
theorem initSongSetsUpTheLaunch : Obligations.InitSongSetsUpTheLaunch := by
  refine fun n s => ⟨fun h => initSong_refused (by omega), fun h _ => ⟨_, initSong_accepted h, ?_⟩, fun f => ?_⟩
  · rw [loadSong, setup_writeTrap_eq, ← regionCode_eq]
    exact ⟨rfl, rfl, rfl, rfl, rfl, fun i _ => read_entryRam_nil s.params.trapAddr i, rfl, rfl, rfl, rfl, rfl⟩
  · rw [initSongOf_eq]
    split_ifs with h
    · exact (initSong_accepted (s := s.mapFile f) h).symm
    · rfl

/-- R536: what `run_play_frame()` launches on a CPU that is not jammed, once a song is loaded. -/
theorem runPlayFrame_running {s : State} (hl : s.session.loaded = true) (hj : s.jammed = false) :
    runPlayFrame s = launch s.params.playBudget (setup s.params.file.playAddr (writeTrap s)) := by
  have hparams : (setup s.params.file.playAddr (writeTrap s)).params = s.params := by rw [setup_writeTrap_eq]
  simp only [runPlayFrame, hl, hj, hparams]
  rfl

/-- Settles O51: the two refusals, and the launch of `runPlayFrame_running`, whose state is that of `setup_writeTrap_eq`. -/
theorem playFrameIsRefusedOrLaunched : Obligations.PlayFrameIsRefusedOrLaunched := by
  refine fun s => ⟨fun hl => ?_, fun ⟨hl, hj⟩ => ?_, fun ⟨hl, hj⟩ htrap => ⟨_, runPlayFrame_running hl hj, ?_⟩⟩
  · simp [runPlayFrame, hl]
  · simp [runPlayFrame, hl, hj, State.setStatus]
  · rw [setup_writeTrap_eq, ← regionCode_eq]
    exact ⟨rfl, rfl, rfl, ⟨htrap, read_entryRam_trap s.params.trapAddr s.ram⟩, read_entryRam s.params.trapAddr s.ram _,
      read_entryRam s.params.trapAddr s.ram _, rfl, rfl, fun i => read_entryRam_other s.params.trapAddr s.ram⟩

theorem lo_zeroPage (z : Byte) : lo (zeroPage z) = z := by
  revert z; decide

theorem hi_zeroPage (z : Byte) : hi (zeroPage z) = 0x00 := by
  revert z; decide

/-- R71: below the first mirror an address is its own index of RAM. -/
theorem peek_of_toNat_lt {a : Addr} {n : Nat} (ha : a.toNat = n) (hn : n < 2048) (s : State) :
    peek s a = some (Memory.read s.ram n) := by
  have hlt : a < 0x2000 := by rw [BitVec.lt_def, ha]; exact lt_trans hn (by decide)
  rw [peek, region_ram hlt, ramIndex_eq, ha, Nat.mod_eq_of_lt hn]

/-- R532: the bytes of `JMP T` that stand at TRAP_ADDR + 1. -/
theorem peek_trapJump {s : State} (h : TrapIntact s) (hpc : s.pc.toNat = s.params.trapAddr.toNat + 1) (k : Nat)
    (hk : k < 3) :
    peek s (s.pc + BitVec.ofNat 16 k) = (encode (.jmpAbs (zeroPage s.params.trapAddr)))[k]? := by
  obtain ⟨-, -, hop, hlow, hhigh⟩ := h
  have htrap := s.params.trapAddr.isLt
  have ha : (s.pc + BitVec.ofNat 16 k).toNat = s.params.trapAddr.toNat + 1 + k := by
    rw [BitVec.toNat_add, BitVec.toNat_ofNat, hpc]
    omega
  rw [peek_of_toNat_lt ha (by omega), encode, encode3, lo_zeroPage, hi_zeroPage]
  interval_cases k
  · exact congrArg some hop
  · exact congrArg some hlow
  · exact congrArg some hhigh

/-- R533: the step made at TRAP_ADDR + 1 is `JMP T`. -/
theorem step_trapJump {s : State} (hj : s.jammed = false) (h : TrapIntact s)
    (hpc : s.pc.toNat = s.params.trapAddr.toNat + 1) :
    step s = .next ((s.setPC (zeroPage s.params.trapAddr)).tick 3) := by
  obtain ⟨-, hstep⟩ := stepRunsTheInstructionAtPC
  exact hstep s (.jmpAbs (zeroPage s.params.trapAddr)) hj (peek_trapJump h hpc)

/-- Settles O48: RTS (`exec_rts`) pulls TRAP_ADDR, and the step after it is that of `step_trapJump`. -/
theorem returnLandsInTheTrap : Obligations.ReturnLandsInTheTrap := by
  intro s hj htrap hsp hlow hhigh
  have hword : wordOf (stackByte s 1) (stackByte s 2) = wordOf s.params.trapAddr 0x00 := by
    rw [stackByte, stackByte, hsp]
    exact congrArg₂ wordOf hlow hhigh
  have hpc : (wordOf (stackByte s 1) (stackByte s 2) + 1).toNat = s.params.trapAddr.toNat + 1 := by
    have hlt := s.params.trapAddr.isLt
    rw [hword, BitVec.toNat_add, wordOf_toNat]
    show (s.params.trapAddr.toNat + 0 + 1) % 65536 = _
    omega
  have hback : s.sp + 2 = 0xFD := by rw [hsp]; rfl
  exact ⟨_, _, exec_rts s, hpc, hback, step_trapJump hj htrap hpc, zeroPage_toNat _, rfl, rfl, hback⟩

end Sys2Proof.Machine

/-! ## 70_reset_and_hazards.md: how a launch ends -/

namespace Sys2Proof.Machine

theorem CpuEffect.params_eq {s t : State} (h : CpuEffect s t) : t.params = s.params := by
  obtain ⟨hframe, -, -⟩ := h
  rw [hframe]

/-- R156: a step leaves a jammed CPU as it is. -/
theorem stepState_jammed {s : State} (h : s.jammed = true) : stepState s = s := by
  rw [stepState, step_jammed h]

/-- R154, R156: a step that leaves the CPU not jammed was made by one not jammed, and adds 2 to 8 cycles. -/
theorem stepState_clock_of_not_jammed {s : State} (h : (stepState s).jammed = false) :
    s.cycles + 2 ≤ (stepState s).cycles ∧ (stepState s).cycles ≤ s.cycles + 8 := by
  cases hj : s.jammed with
  | true => rw [stepState_jammed hj, hj] at h; cases h
  | false =>
    rcases stepState_clock hj with ⟨-, hclock⟩ | ⟨hjammed, -⟩
    · exact hclock
    · rw [h] at hjammed; cases hjammed

/-- R534, R537, R561: the three ways the loop of a launch ends, under the parameters `p`, with the cycles elapsed since `start`. -/
inductive LaunchEnds (p : Params) (budget start : Nat) : Except HostError LaunchEnd × State → Prop
  | trapped {s : State} (hpc : s.pc = zeroPage p.trapAddr) (hj : s.jammed = false) (hstart : start ≤ s.cycles)
      (hle : s.cycles - start ≤ budget + 7) :
      LaunchEnds p budget start (.ok (.trapped (s.cycles - start)), s.setStatus .trapped)
  | exhausted {s : State} (hstart : start ≤ s.cycles) (hge : budget ≤ s.cycles - start) (hle : s.cycles - start ≤ budget + 7) :
      LaunchEnds p budget start (.ok (.budgetExhausted (s.cycles - start)), s.setStatus .budgetExhausted)
  | jammed {s : State} (hj : s.jammed = true) : LaunchEnds p budget start (.error .cpuJammed, s.setStatus .jammed)

/-- R534, R537: with fuel for the cycles left of the budget, the loop of a launch ends in one of the three ways: a step is made only before
the budget is used up, and adds 2 to 8 cycles or jams. -/
theorem launchLoop_ends {budget start : Nat} (fuel : Nat) {s : State} (hstart : start ≤ s.cycles)
    (hle : s.cycles - start ≤ budget + 7) (hfuel : budget ≤ s.cycles - start + fuel) :
    LaunchEnds s.params budget start (launchLoop fuel budget start s) := by
  induction fuel generalizing s with
  | zero => exact .exhausted hstart hfuel hle
  | succ fuel ih =>
    have hparams := (effect_stepState s).params_eq
    unfold launchLoop
    dsimp only
    split_ifs with hbudget hjam htrap
    · exact .exhausted hstart hbudget hle
    · exact .jammed hjam
    all_goals
      have hj := Bool.eq_false_iff.2 hjam
      obtain ⟨hlo, hhi⟩ := stepState_clock_of_not_jammed hj
    · exact .trapped (hparams ▸ htrap) hj (by omega) (by omega)
    · exact hparams ▸ ih (by omega) (by omega) (by omega)

theorem launch_ends (budget : Nat) (s : State) : LaunchEnds s.params budget s.cycles (launch budget s) :=
  launchLoop_ends (s := s.setStatus .running) budget le_rfl (by simp) (by simp)

/-- R537: a launch with no budget makes no step. -/
theorem launch_zero (s : State) : (launch 0 s).1 = .ok (.budgetExhausted 0) := by
  simp [launch, launchLoop]

/-- Settles O50: `launch_ends`, case by case. -/
theorem launchEndsInOneOfThreeWays : Obligations.LaunchEndsInOneOfThreeWays := by
  refine fun budget s => ⟨launch_zero s, ?_⟩
  have hends := launch_ends budget s
  generalize launch budget s = out at hends
  cases hends with
  | trapped hpc hj hstart hle => exact ⟨hpc, hj, rfl, (Nat.add_sub_of_le hstart).symm, hle⟩
  | exhausted hstart hge hle => exact ⟨hge, hle, (Nat.add_sub_of_le hstart).symm, rfl⟩
  | jammed hj => exact ⟨rfl, hj, rfl⟩

end Sys2Proof.Machine
